-- ==== Sys2Proof/Word.lean ====
section
/-! DEFINITION. The value types of the engine (rules R10, R22). A byte is 8 bits, a word is 32 unsigned bits, a
rotation amount is 0..31 and needs 5 bits. There is no signed quantity anywhere in the hardware. -/

namespace Sys2Proof

/-- A byte, an integer 0..255 (R10). -/
abbrev Byte := BitVec 8

/-- A word, an integer 0..2^32 - 1, bits 31 down to 0 (R10). Its `+`, `-` and `^^^` wrap modulo 2^32, which is
what rules R80 and R81 call `+32`, `−32` and `^`. -/
abbrev Word := BitVec 32

/-- A rotation amount, an integer 0..31 (R22: "the hardware needs 5 bits for each"). -/
abbrev Rot := BitVec 5

end Sys2Proof
end

