-- ==== Sys2Proof/Machine/ByteOrder.lean ====
section
/-! DEFINITION. Byte order: big-endian everywhere, and it cannot be switched (R40). The conversions of rule R11 between
bytes, words and integers, each written once here. -/

namespace Sys2Proof.Machine

/-- `be32(s)` of the four bytes `b0 b1 b2 b3`, `b0` the most significant (R11, R41). -/
def be32 (b0 b1 b2 b3 : Byte) : Word :=
  b0 ++ b1 ++ b2 ++ b3

/-- `w[31:24]`, the byte of a word that comes first (R11, R84). -/
def byte0 (w : Word) : Byte := w.extractLsb' 24 8

/-- `w[23:16]` (R11, R84). -/
def byte1 (w : Word) : Byte := w.extractLsb' 16 8

/-- `w[15:8]` (R11, R84). -/
def byte2 (w : Word) : Byte := w.extractLsb' 8 8

/-- `w[7:0]`, the byte of a word that comes last (R11, R84). -/
def byte3 (w : Word) : Byte := w.extractLsb' 0 8

/-- `bytes32(w)`: the four bytes of a word, most significant first (R11). -/
def bytes32 (w : Word) : List Byte :=
  [byte0 w, byte1 w, byte2 w, byte3 w]

/-- `bytes(ws)`: the bytes of a word sequence (R11, R41). -/
def bytes (ws : List Word) : List Byte :=
  ws.flatMap bytes32

/-- `be32(s[off..off+3])`: the word at a byte offset of a byte sequence. Every caller has checked the length, so the
bytes read exist (R71). -/
def wordAt (s : List Byte) (off : Nat) : Word :=
  be32 (s.getD off 0) (s.getD (off + 1) 0) (s.getD (off + 2) 0) (s.getD (off + 3) 0)

/-- `words(s[off..off+4n-1])`: `n` words from a byte offset on, word `j` at `off + 4j` (R11, R41, R64). -/
def wordsAt (n : Nat) (s : List Byte) (off : Nat) : Vector Word n :=
  Vector.ofFn fun j => wordAt s (off + 4 * j.val)

/-- The first `n` items of a sequence as a store of `n` entries. Every caller gives a sequence of `n` items, so `fill`
is not read. -/
def storeOf {α : Type} (n : Nat) (fill : α) (l : List α) : Vector α n :=
  Vector.ofFn fun j => l.getD j.val fill

/-- `be_int(s)`: a byte sequence of any length as a big-endian integer; 0 for the empty sequence (R11, R42). -/
def beInt (s : List Byte) : Nat :=
  s.foldl (fun n b => 256 * n + b.toNat) 0

/-- `bytes64(n)` for `n < 2^64`: eight bytes, most significant first (R11, R42). -/
def bytes64 (n : Nat) : Vector Byte 8 :=
  Vector.ofFn fun j => BitVec.ofNat 8 (n / 256 ^ (7 - j.val))

/-- A length `n < 2^24` as the three bytes of a header's length field, most significant first (R43, R61, R62). -/
def bytes24 (n : Nat) : List Byte :=
  [BitVec.ofNat 8 (n / 65536), BitVec.ofNat 8 (n / 256), BitVec.ofNat 8 n]

/-- `zext_32(r)`: a rotation amount as it crosses the interface, a word with bits 31:5 zero (R22, R72). -/
def rotWord (r : Rot) : Word :=
  r.setWidth 32

end Sys2Proof.Machine
end

