-- ==== Sys2Proof/Config.lean ====
section
/-! DEFINITION. What is fixed for one engine and does not change as it runs: the structural constants of rules R5, R6
and R8, and the one parameter the spec leaves open that a model takes, `SBOX` (R9, I2). -/

namespace Sys2Proof

/-- The shape of the four substitution tables S1..S4: one 32-bit word for each table and byte (R9, R45). -/
structure Sbox where
  /-- `SBOX[1]`, the table S1. -/
  s1 : Byte → Word
  /-- `SBOX[2]`, the table S2. -/
  s2 : Byte → Word
  /-- `SBOX[3]`, the table S3. -/
  s3 : Byte → Word
  /-- `SBOX[4]`, the table S4. -/
  s4 : Byte → Word
  deriving Inhabited

/-- `SBOX`, the substitution tables of this engine: OPEN in the spec (R8, R9, decision D2), so a value without a
body, constant for the life of the engine (R221). Nothing can evaluate it. Log entry 1. -/
opaque Config.sbox : Sbox

/-- `BLOCK_BYTES`: the block size, 24 bytes = 6 words (R5). -/
abbrev Config.blockBytes : Nat := 24

/-- `KEY_BYTES`: the size of a normalised key, 48 bytes = 12 words (R5). -/
abbrev Config.keyBytes : Nat := 48

/-- `ROUNDS`: the rounds of the operating configuration (R5). -/
abbrev Config.rounds : Nat := 12

/-- `DPR`: the dodecads per round of the operating configuration (R5). -/
abbrev Config.dpr : Nat := 4

/-- `CM0`: the start of the masking recurrence (R8, R100). -/
abbrev Config.cm0 : Nat := 0x5A827999

/-- `CMSTEP`: the step of the masking recurrence (R8, R100). -/
abbrev Config.cmStep : Nat := 0x6ED9EBA1

/-- `CR0`: the start of the rotation recurrence (R8, R100). -/
abbrev Config.cr0 : Nat := 19

/-- `CRSTEP`: the step of the rotation recurrence (R8, R100). -/
abbrev Config.crStep : Nat := 17

/-- `NONCE_BYTES`: the size of the nonce (R6). -/
abbrev Config.nonceBytes : Nat := 16

/-- `CTR_BYTES`: the size of the block counter's field in a counter block (R6). -/
abbrev Config.ctrBytes : Nat := 8

/-- `2^64`: the number of block indices, and the value of `CTR` that means exhausted (R29). -/
abbrev Config.ctrLimit : Nat := 2 ^ 64

/-- `2^LEN_BITS`: one more than the longest payload a frame can carry (R8, R61). -/
abbrev Config.lenLimit : Nat := 2 ^ 24

end Sys2Proof
end

