-- ==== Sys2Proof/Syntax.lean ====
section
/-! DEFINITION. The instruction set: one constructor for each of the twenty commands of rule R65, each with the payload
of its frame as the host sent it. The payload stays a byte sequence because a frame with an assigned opcode IS that
command whatever its length (R67, R68): a length the format does not allow is refused by the command itself, with
`BAD_LENGTH`. The operands are read out of the payload in Machine/Operands.lean. -/

namespace Sys2Proof

/-- A command of the engine (R12, R65). -/
inductive Instr where
  /-- `0x10 KEY_INIT`, format `V`: `key = payload` (R107). -/
  | keyInit (key : List Byte)
  /-- `0x11 ENC_BLOCK`, format `B` (R127). -/
  | encBlock (payload : List Byte)
  /-- `0x12 DEC_BLOCK`, format `B` (R128). -/
  | decBlock (payload : List Byte)
  /-- `0x13 RD_KM`, format `N` (R165). -/
  | rdKm (payload : List Byte)
  /-- `0x14 RD_KR`, format `N` (R166). -/
  | rdKr (payload : List Byte)
  /-- `0x20 CTR_INIT`, format `NK` (R145). -/
  | ctrInit (payload : List Byte)
  /-- `0x21 CTR_ENCRYPT`, format `V`: `data = payload` (R146). -/
  | ctrEncrypt (data : List Byte)
  /-- `0x22 CTR_DECRYPT`, format `V`: `data = payload` (R147). -/
  | ctrDecrypt (data : List Byte)
  /-- `0x23 CTR_SEEK`, format `V`: `counterBytes = payload` (R148). -/
  | ctrSeek (counterBytes : List Byte)
  /-- `0x30 GEN_SCHED`, format `P` (R167). -/
  | genSched (payload : List Byte)
  /-- `0x31 GEN_RK`, format `PK` (R168). -/
  | genRk (payload : List Byte)
  /-- `0x32 DODECAD`, format `D` (R169). -/
  | dodecad (payload : List Byte)
  /-- `0x33 HEXAD`, format `H` (R170). -/
  | hexad (payload : List Byte)
  /-- `0x34 HEXADINV`, format `H` (R171). -/
  | hexadInv (payload : List Byte)
  /-- `0x41 F1`, format `F` (R172). -/
  | f1 (payload : List Byte)
  /-- `0x42 F2`, format `F` (R173). -/
  | f2 (payload : List Byte)
  /-- `0x43 F3`, format `F` (R174). -/
  | f3 (payload : List Byte)
  /-- `0x44 F4`, format `F` (R175). -/
  | f4 (payload : List Byte)
  /-- `0x45 F5`, format `F` (R176). -/
  | f5 (payload : List Byte)
  /-- `0x46 F6`, format `F` (R177). -/
  | f6 (payload : List Byte)
  deriving DecidableEq, Repr

/-- The nine payload formats (R64). -/
inductive PayloadFormat where
  /-- `N`: no payload. -/
  | none
  /-- `V`: one operand, a byte sequence of any length. -/
  | variable
  /-- `B`: one 24-byte block. -/
  | block
  /-- `NK`: a 16-byte nonce and a key of any length. -/
  | nonceKey
  /-- `P`: the two bytes `r` and `d`. -/
  | params
  /-- `PK`: the two bytes `r` and `d` and a key of any length. -/
  | paramsKey
  /-- `D`: 12 block words, 12 masking words, 12 rotation words. -/
  | dodecad
  /-- `H`: 6 block words, 6 masking words, 6 rotation words. -/
  | hexad
  /-- `F`: a data word, a masking word, a rotation word. -/
  | fFunction
  deriving DecidableEq, Repr

/-- The payload of a command's frame, `LEN` bytes (R60). -/
def Instr.payload : Instr → List Byte
  | .keyInit p => p
  | .encBlock p => p
  | .decBlock p => p
  | .rdKm p => p
  | .rdKr p => p
  | .ctrInit p => p
  | .ctrEncrypt p => p
  | .ctrDecrypt p => p
  | .ctrSeek p => p
  | .genSched p => p
  | .genRk p => p
  | .dodecad p => p
  | .hexad p => p
  | .hexadInv p => p
  | .f1 p => p
  | .f2 p => p
  | .f3 p => p
  | .f4 p => p
  | .f5 p => p
  | .f6 p => p

end Sys2Proof
end

