-- ==== Sys2Proof/Machine/Operands.lean ====
section
/-! DEFINITION. Operand assembly: the nine payload formats, their legal lengths, and the operands each one carries at
fixed offsets (R64, R68, R71, R72). Each reader answers `none` exactly where `LEN` is not legal for its format; the
command then raises `BAD_LENGTH`. -/

namespace Sys2Proof.Machine

/-- The payload format of each command (R65). -/
def formatOf : Instr → PayloadFormat
  | .keyInit _ => .variable
  | .encBlock _ => .block
  | .decBlock _ => .block
  | .rdKm _ => .none
  | .rdKr _ => .none
  | .ctrInit _ => .nonceKey
  | .ctrEncrypt _ => .variable
  | .ctrDecrypt _ => .variable
  | .ctrSeek _ => .variable
  | .genSched _ => .params
  | .genRk _ => .paramsKey
  | .dodecad _ => .dodecad
  | .hexad _ => .hexad
  | .hexadInv _ => .hexad
  | .f1 _ => .fFunction
  | .f2 _ => .fFunction
  | .f3 _ => .fFunction
  | .f4 _ => .fFunction
  | .f5 _ => .fFunction
  | .f6 _ => .fFunction

/-- The legal payload lengths of a format (R64, column "legal `LEN`"). -/
def legalLen : PayloadFormat → Nat → Bool
  | .none, n => n == 0
  | .variable, _ => true
  | .block, n => n == 24
  | .nonceKey, n => 16 ≤ n
  | .params, n => n == 2
  | .paramsKey, n => 2 ≤ n
  | .dodecad, n => n == 144
  | .hexad, n => n == 72
  | .fFunction, n => n == 12

/-- Format `N`: no operand (R64). -/
def operandsN (p : List Byte) : Option Unit :=
  if legalLen .none p.length then some () else none

/-- Format `B`: `blk[0..23]` (R64). -/
def operandsB (p : List Byte) : Option (Vector Byte 24) :=
  if legalLen .block p.length then some (storeOf 24 0 p) else none

/-- Format `NK`: `nonce = payload[0..15]`, `key = payload[16..]` (R64). -/
def operandsNK (p : List Byte) : Option (Vector Byte 16 × List Byte) :=
  if legalLen .nonceKey p.length then some (storeOf 16 0 p, p.drop 16) else none

/-- Format `P`: `r = payload[0]`, `d = payload[1]`, unsigned (R64). -/
def operandsP (p : List Byte) : Option (Nat × Nat) :=
  if legalLen .params p.length then some ((p.getD 0 0).toNat, (p.getD 1 0).toNat) else none

/-- Format `PK`: `r = payload[0]`, `d = payload[1]`, `key = payload[2..]` (R64). -/
def operandsPK (p : List Byte) : Option (Nat × Nat × List Byte) :=
  if legalLen .paramsKey p.length then some ((p.getD 0 0).toNat, (p.getD 1 0).toNat, p.drop 2) else none

/-- Format `D`: the block `k`, the masking words `tm`, the rotation words `tr`, twelve words each (R64). -/
def operandsD (p : List Byte) : Option (Vector Word 12 × Vector Word 12 × Vector Word 12) :=
  if legalLen .dodecad p.length then some (wordsAt 12 p 0, wordsAt 12 p 48, wordsAt 12 p 96) else none

/-- Format `H`: the block `w`, the masking words `km`, the rotation words `kr`, six words each (R64). -/
def operandsH (p : List Byte) : Option (Vector Word 6 × Vector Word 6 × Vector Word 6) :=
  if legalLen .hexad p.length then some (wordsAt 6 p 0, wordsAt 6 p 24, wordsAt 6 p 48) else none

/-- Format `F`: the data word `d`, the masking word `km`, the rotation word `kr` (R64). -/
def operandsF (p : List Byte) : Option (Word × Word × Word) :=
  if legalLen .fFunction p.length then some (wordAt p 0, wordAt p 4, wordAt p 8) else none

/-- A rotation operand is legal when it is in 0..31; it is never reduced modulo 32 (R72). -/
def rotLegal (w : Word) : Bool := w.toNat ≤ 31

/-- The rotation amount of a legal rotation word. -/
def rotOf (w : Word) : Rot := w.setWidth 5

/-- One rotation operand; `none` where it is above 31 (R72, R206). -/
def rotOperand (w : Word) : Option Rot :=
  if rotLegal w then some (rotOf w) else none

/-- A list of rotation operands; `none` where some word is above 31 (R72, R206). -/
def rotOperands {n : Nat} (ws : Vector Word n) : Option (Vector Rot n) :=
  if ws.toList.all rotLegal then some (Vector.ofFn fun j => rotOf ws[j]) else none

end Sys2Proof.Machine
end

