-- ==== Sys2Proof/Machine/FFunctions.lean ====
section
/-! DEFINITION. The arithmetic of the engine: the circular rotation and the six combine functions (R80 to R93). The
tables `S` are an argument of every function here and above (R9). -/

namespace Sys2Proof.Machine

/-- `rotl32(v, n)`: the circular left rotation of a word by 0..31 places (R83). -/
def rotl32 (v : Word) (n : Rot) : Word :=
  v.rotateLeft n.toNat

/-- `split(t)`: the four bytes of a word, most significant first (R84). -/
def split (t : Word) : Byte × Byte × Byte × Byte :=
  (byte0 t, byte1 t, byte2 t, byte3 t)

/-- F1: add, rotate, then XOR, SUB, ADD (R86). -/
def F1 (S : Sbox) (d km : Word) (kr : Rot) : Word :=
  let t := rotl32 (d + km) kr
  ((S.s1 (byte0 t) ^^^ S.s2 (byte1 t)) - S.s3 (byte2 t)) + S.s4 (byte3 t)

/-- F2: XOR, rotate, then SUB, ADD, XOR (R87). -/
def F2 (S : Sbox) (d km : Word) (kr : Rot) : Word :=
  let t := rotl32 (d ^^^ km) kr
  ((S.s1 (byte0 t) - S.s2 (byte1 t)) + S.s3 (byte2 t)) ^^^ S.s4 (byte3 t)

/-- F3: subtract (`Km - d`), rotate, then ADD, XOR, SUB (R88). -/
def F3 (S : Sbox) (d km : Word) (kr : Rot) : Word :=
  let t := rotl32 (km - d) kr
  ((S.s1 (byte0 t) + S.s2 (byte1 t)) ^^^ S.s3 (byte2 t)) - S.s4 (byte3 t)

/-- F4: subtract (`Km - d`), rotate, then XOR, ADD, SUB (R89). -/
def F4 (S : Sbox) (d km : Word) (kr : Rot) : Word :=
  let t := rotl32 (km - d) kr
  ((S.s1 (byte0 t) ^^^ S.s2 (byte1 t)) + S.s3 (byte2 t)) - S.s4 (byte3 t)

/-- F5: add, rotate, then SUB, XOR, ADD (R90). -/
def F5 (S : Sbox) (d km : Word) (kr : Rot) : Word :=
  let t := rotl32 (d + km) kr
  ((S.s1 (byte0 t) - S.s2 (byte1 t)) ^^^ S.s3 (byte2 t)) + S.s4 (byte3 t)

/-- F6: XOR, rotate, then ADD, SUB, XOR (R91). -/
def F6 (S : Sbox) (d km : Word) (kr : Rot) : Word :=
  let t := rotl32 (d ^^^ km) kr
  ((S.s1 (byte0 t) + S.s2 (byte1 t)) - S.s3 (byte2 t)) ^^^ S.s4 (byte3 t)

/-- `F(i + 1, d, Km, Kr)`: the combine function of step index `i` in 0..5 (R93). -/
def combine (S : Sbox) (i : Fin 6) (d km : Word) (kr : Rot) : Word :=
  match i with
  | 0 => F1 S d km kr
  | 1 => F2 S d km kr
  | 2 => F3 S d km kr
  | 3 => F4 S d km kr
  | 4 => F5 S d km kr
  | 5 => F6 S d km kr

/-- One mixing step of a dodecad or a hexad: `w[tgt] <- w[tgt] ^ F(i + 1, w[src], km, kr)` (R102, R120). -/
def mixStep {n : Nat} (S : Sbox) (i : Fin 6) (tgt src : Fin n) (km : Word) (kr : Rot) (w : Vector Word n) :
    Vector Word n :=
  w.set tgt.val (w[tgt] ^^^ combine S i w[src] km kr) tgt.isLt

end Sys2Proof.Machine
end

