-- ==== Sys2Proof/Machine/BlockKernel.lean ====
section
/-! DEFINITION. The 12-round block kernel: hexad, inverse hexad, block encryption and decryption, and the keystream
block (R120 to R125, R140, R141). All are pure functions; the working block is a local value (R25). -/

namespace Sys2Proof.Machine

/-- `TGT` of the hexad: the word that step `j` updates (R120). -/
def hexadTgt : Vector (Fin 6) 6 := #v[4, 3, 2, 1, 0, 5]

/-- `SRC` of the hexad: the word that step `j` reads (R120). -/
def hexadSrc : Vector (Fin 6) 6 := #v[5, 4, 3, 2, 1, 0]

/-- Step `j` of a hexad, with pair `j` and the function F(j + 1) (R120, R121). -/
def hexadStep (S : Sbox) (km : Vector Word 6) (kr : Vector Rot 6) (w : Vector Word 6) (j : Fin 6) : Vector Word 6 :=
  mixStep S j hexadTgt[j] hexadSrc[j] km[j] kr[j] w

/-- The step indices of a hexad, in order. -/
def hexadOrder : List (Fin 6) := [0, 1, 2, 3, 4, 5]

/-- `Hexad(w, km, kr)`: steps 0 up to 5 (R120). -/
@[irreducible] def hexad (S : Sbox) (w : Vector Word 6) (km : Vector Word 6) (kr : Vector Rot 6) : Vector Word 6 :=
  hexadOrder.foldl (hexadStep S km kr) w

/-- `HexadInv(w, km, kr)`: the same six steps, 5 down to 0 (R121). -/
@[irreducible] def hexadInv (S : Sbox) (w : Vector Word 6) (km : Vector Word 6) (kr : Vector Rot 6) : Vector Word 6 :=
  hexadOrder.reverse.foldl (hexadStep S km kr) w

/-- `X[6r .. 6r+5]`: the six round keys of round `r` (R123). -/
def roundSlice {α : Type} (x : Vector α 72) (r : Fin 12) : Vector α 6 :=
  Vector.ofFn fun j => x[6 * r.val + j.val]

/-- Round `r` done by `Hexad` (R123, R124). -/
def forwardRound (S : Sbox) (km : Vector Word 72) (kr : Vector Rot 72) (w : Vector Word 6) (r : Fin 12) : Vector Word 6 :=
  hexad S w (roundSlice km r) (roundSlice kr r)

/-- Round `r` done by `HexadInv` (R123, R124). -/
def inverseRound (S : Sbox) (km : Vector Word 72) (kr : Vector Rot 72) (w : Vector Word 6) (r : Fin 12) : Vector Word 6 :=
  hexadInv S w (roundSlice km r) (roundSlice kr r)

/-- Rounds 0 to 5, ascending (R124). -/
def firstRounds : List (Fin 12) := [0, 1, 2, 3, 4, 5]

/-- Rounds 6 to 11, ascending (R124). -/
def lastRounds : List (Fin 12) := [6, 7, 8, 9, 10, 11]

/-- `words(blk)`: the six big-endian words of a block (R41, R124). -/
def blockWords (blk : Vector Byte 24) : Vector Word 6 :=
  wordsAt 6 blk.toList 0

/-- `bytes(w)`: a block of six words as its 24 bytes (R41, R124). -/
def wordsBlock (w : Vector Word 6) : Vector Byte 24 :=
  storeOf 24 0 (bytes w.toList)

/-- `EncBlock(KM, KR, blk)`: `Hexad` for rounds 0 to 5, then `HexadInv` for rounds 6 to 11 (R124). -/
@[irreducible] def encBlock (S : Sbox) (km : Vector Word 72) (kr : Vector Rot 72) (blk : Vector Byte 24) : Vector Byte 24 :=
  let w := firstRounds.foldl (forwardRound S km kr) (blockWords blk)
  wordsBlock (lastRounds.foldl (inverseRound S km kr) w)

/-- `DecBlock(KM, KR, blk)`: `Hexad` for rounds 11 down to 6, then `HexadInv` for rounds 5 down to 0 (R125). -/
@[irreducible] def decBlock (S : Sbox) (km : Vector Word 72) (kr : Vector Rot 72) (blk : Vector Byte 24) : Vector Byte 24 :=
  let w := lastRounds.reverse.foldl (forwardRound S km kr) (blockWords blk)
  wordsBlock (firstRounds.reverse.foldl (inverseRound S km kr) w)

/-- The counter block of index `n`: the nonce in bytes 0 to 15, `bytes64(n)` in bytes 16 to 23 (R140). -/
def counterBlock (nonce : Vector Byte 16) (n : Nat) : Vector Byte 24 :=
  nonce ++ bytes64 n

/-- `KsBlock(KM, KR, nonce, n)` for `n < 2^64`: the keystream block of index `n` (R140). -/
@[irreducible] def ksBlock (S : Sbox) (km : Vector Word 72) (kr : Vector Rot 72) (nonce : Vector Byte 16) (n : Nat) : Vector Byte 24 :=
  encBlock S km kr (counterBlock nonce n)

/-- `Z[p] = KsBlock(KM, KR, nonce, p div 24)[p mod 24]`: byte `p` of the keystream (R141). -/
def keystreamByte (S : Sbox) (km : Vector Word 72) (kr : Vector Rot 72) (nonce : Vector Byte 16) (p : Nat) : Byte :=
  (ksBlock S km kr nonce (p / 24))[p % 24]'(Nat.mod_lt p (by decide))

end Sys2Proof.Machine
end

