-- ==== Sys2Proof/Machine/State.lean ====
section
/-! DEFINITION. The state of one engine (R20) with the two ports and the reset input that the host drives (R13, R18), the
engine's own faults (R200), and the state right after reset (R37, R221). -/

namespace Sys2Proof.Machine

/-- The seven faults the ENGINE answers a command with (R200). They are responses, not stops of the machine: a fault
is one `STATUS` byte, no state is written and the engine goes on (R204). -/
inductive EngineFault where
  /-- `OPC` is not one of the twenty assigned values (R201). -/
  | illegalOpcode
  /-- `LEN` is not legal for the opcode's payload format (R202). -/
  | badLength
  /-- `KEY_VALID = 0` (R203). -/
  | notKeyed
  /-- `CTR_VALID = 0` (R205). -/
  | ctrNotInit
  /-- A rotation word of the payload is above 31 (R206). -/
  | badOperand
  /-- `be_int(counterBytes) ≥ 2^64` (R207). -/
  | seekRange
  /-- The command needs a keystream block of index `≥ 2^64` (R208). -/
  | ctrExhausted
  deriving DecidableEq, Repr

/-- Stops of the machine by a fault: none. Every fault of the spec is a response after which the engine runs on (R204,
R211), and there is no hang and no third outcome (R16), so nothing raises one; having no constructor here is safe (log
entry 11). -/
inductive Fault where
  deriving DecidableEq, Repr

/-- Stops of the machine for want of a meaning. -/
inductive Refusal where
  /-- Raised by exec's arm of an instruction without a meaning; safe (the run stops). No arm of this model raises it. -/
  | notModelled (mnemonic : String)
  deriving DecidableEq, Repr

/-- The state of one engine. The first eight fields are the whole architectural state of rule R20; the last three are
the model's own and stand for the world at the engine's ports (log entries 4, 5, 6). -/
@[ext]
structure State where
  /-- `KM[0..71]`, the masking round keys (R21). -/
  km : Vector Word 72
  /-- `KR[0..71]`, the rotation round keys, each 0..31 (R22). -/
  kr : Vector Rot 72
  /-- `KEY_VALID`: `KM` and `KR` hold a derived round-key set (R23). -/
  keyValid : Bool
  /-- `NONCE[0..15]` (R28). -/
  nonce : Vector Byte 16
  /-- `CTR`, 0..2^64: the index of the next keystream block to generate; 2^64 means exhausted (R29). Its range is an
  invariant, not its type: log entry 10, as for `cur`. -/
  ctr : Nat
  /-- `KS[0..23]`, the last generated keystream block (R30). -/
  ks : Vector Byte 24
  /-- `CUR`, 0..24: `KS[CUR..23]` are the unconsumed keystream bytes (R30). -/
  cur : Nat
  /-- `CTR_VALID`: `NONCE`, `CTR` and `CUR` are initialised (R31). -/
  ctrValid : Bool
  /-- The bytes received on the command port that no command has taken yet, oldest first (R60, R66). -/
  cmdPort : List Byte
  /-- The response frames sent on the response port that the host has not taken yet, oldest first (R62, R66). -/
  respPort : List Byte
  /-- The reset input: the host asserts it, the next step acts on it (R220). -/
  resetLine : Bool
  deriving DecidableEq, Repr

/-- The state right after reset (R37, R220, R221): both flags 0; no frame received and no response sent. The spec gives
`KM`, `KR`, `NONCE`, `CTR`, `KS`, `CUR` no reset value and lets a model take zeros (R221): DESIGN CHOICE, log entry 2. -/
def State.reset : State where
  km := Vector.replicate 72 0
  kr := Vector.replicate 72 0
  keyValid := false
  nonce := Vector.replicate 16 0
  ctr := 0
  ks := Vector.replicate 24 0
  cur := 0
  ctrValid := false
  cmdPort := []
  respPort := []
  resetLine := false

end Sys2Proof.Machine
end

