-- ==== Sys2Proof/Machine/Flags.lean ====
section
/-! DEFINITION. The status flags (R32). The engine has no condition codes: no command computes a flag from data. Its two
flags are set here; the third status, "exhausted", is the value 2^64 of `CTR` (R29, R143), and whether a data command
would run past it is decided here from `CUR`, `CTR` and the length alone (R146). -/

namespace Sys2Proof.Machine

/-- `KEY_VALID <- 1` (R23, R107, R145). -/
def State.setKeyValid (s : State) : State := { s with keyValid := true }

/-- `CTR_VALID <- 1` (R31, R145). -/
def State.setCtrValid (s : State) : State := { s with ctrValid := true }

/-- `24 − CUR`: the unconsumed bytes of the keystream buffer (R30, R146). -/
def State.available (s : State) : Nat := Config.blockBytes - s.cur

/-- The refills a data command of `len` bytes needs: 0 if `len ≤ avail`, else `⌈(len − avail) / 24⌉` (R146, R151). -/
def State.refillsNeeded (s : State) (len : Nat) : Nat :=
  if len ≤ s.available then 0
  else (len - s.available + (Config.blockBytes - 1)) / Config.blockBytes

/-- A data command of `len` bytes would need a keystream block of index `≥ 2^64` (R146, R208). -/
def State.wouldExhaust (s : State) (len : Nat) : Bool :=
  1 ≤ s.refillsNeeded len && Config.ctrLimit < s.ctr + s.refillsNeeded len

/-- `CTR = 2^64`: no further keystream block can be generated (R143). -/
def State.exhausted (s : State) : Bool := s.ctr == Config.ctrLimit

end Sys2Proof.Machine
end

