-- ==== Sys2Proof/Machine/KeySchedule.lean ====
section
/-! DEFINITION. The key schedule: the temporary schedule, the dodecad, key normalisation, round-key extraction and the
key derivation of the operating configuration (R100 to R110). All are pure functions of their arguments and the
tables. -/

namespace Sys2Proof.Machine

/-- `Tm[i] = (0x5A827999 + i · 0x6ED9EBA1) mod 2^32` (R100). -/
def tmEntry (i : Nat) : Word :=
  BitVec.ofNat 32 (Config.cm0 + i * Config.cmStep)

/-- `Tr[i] = (19 + 17 · i) mod 32` (R100). -/
def trEntry (i : Nat) : Rot :=
  BitVec.ofNat 5 (Config.cr0 + Config.crStep * i)

/-- `GenSched(r, d)`: the first `12 · r · d` entries of `Tm` and of `Tr` (R101). -/
def genSched (r d : Nat) : List Word × List Rot :=
  ((List.range (12 * r * d)).map tmEntry, (List.range (12 * r * d)).map trEntry)

/-- `TGT` of the dodecad: the word that step `i` updates (R102). -/
def dodecadTgt : Vector (Fin 12) 12 := #v[10, 9, 8, 7, 6, 5, 4, 3, 2, 1, 0, 11]

/-- `SRC` of the dodecad: the word that step `i` reads (R102). -/
def dodecadSrc : Vector (Fin 12) 12 := #v[11, 10, 9, 8, 7, 6, 5, 4, 3, 2, 1, 0]

/-- The combine function of dodecad step `i`: `F((i mod 6) + 1, ...)` (R102). -/
def dodecadFn : Vector (Fin 6) 12 := #v[0, 1, 2, 3, 4, 5, 0, 1, 2, 3, 4, 5]

/-- Step `i` of a dodecad, with the `i`-th pair (R102). -/
def dodecadStep (S : Sbox) (tm : Vector Word 12) (tr : Vector Rot 12) (k : Vector Word 12) (i : Fin 12) :
    Vector Word 12 :=
  mixStep S dodecadFn[i] dodecadTgt[i] dodecadSrc[i] tm[i] tr[i] k

/-- The step indices of a dodecad, in order. -/
def dodecadOrder : List (Fin 12) := [0, 1, 2, 3, 4, 5, 6, 7, 8, 9, 10, 11]

/-- `Dodecad(k, tm, tr)`: twelve steps in order (R102). -/
@[irreducible] def dodecad (S : Sbox) (k : Vector Word 12) (tm : Vector Word 12) (tr : Vector Rot 12) : Vector Word 12 :=
  dodecadOrder.foldl (dodecadStep S tm tr) k

/-- `NormaliseKey(key)`: the first 48 bytes, zero-padded on the right to exactly 48 (R103). -/
def normaliseKey (key : List Byte) : List Byte :=
  key.take Config.keyBytes ++ List.replicate (Config.keyBytes - key.length) 0

/-- `κ = words(NormaliseKey(key))`, twelve words, κ[0] from key bytes 0..3 (R104). -/
def keyWords (key : List Byte) : Vector Word 12 :=
  wordsAt 12 (normaliseKey key) 0

/-- `T[o .. o+11]` of a schedule sequence. Its callers' sequences are never too short (R105; log entry 9). -/
def slice12 {α : Type} (fill : α) (t : List α) (o : Nat) : Vector α 12 :=
  Vector.ofFn fun j => t.getD (o + j.val) fill

/-- Dodecad `q` of round `ρ`: it consumes the schedule entries from `o = 12 · (ρ · d + q)` on (R105). -/
def scheduleDodecad (S : Sbox) (tm : List Word) (tr : List Rot) (d ρ : Nat) (κ : Vector Word 12) (q : Nat) :
    Vector Word 12 :=
  dodecad S κ (slice12 0 tm (12 * (ρ * d + q))) (slice12 0 tr (12 * (ρ * d + q)))

/-- The masking keys of a round: κ[11], κ[9], κ[7], κ[5], κ[3], κ[1] (R105, R106). -/
def extractKm (κ : Vector Word 12) : List Word :=
  [κ[11], κ[9], κ[7], κ[5], κ[3], κ[1]]

/-- The rotation keys of a round: the low 5 bits of κ[0], κ[2], κ[4], κ[6], κ[8], κ[10] (R105, R106). -/
def extractKr (κ : Vector Word 12) : List Rot :=
  [κ[0].setWidth 5, κ[2].setWidth 5, κ[4].setWidth 5, κ[6].setWidth 5, κ[8].setWidth 5, κ[10].setWidth 5]

/-- The block κ after round `ρ`: `d` dodecads (R105). -/
def scheduleRound (S : Sbox) (tm : List Word) (tr : List Rot) (d : Nat) (κ : Vector Word 12) (ρ : Nat) :
    Vector Word 12 :=
  (List.range d).foldl (scheduleDodecad S tm tr d ρ) κ

/-- Rounds `ρ, ρ + 1, ..., ρ + n - 1` from the block κ: the round keys of each, in order. κ is carried from round to
round and never reset (R105). -/
def genRkFrom (S : Sbox) (tm : List Word) (tr : List Rot) (d : Nat) : Nat → Nat → Vector Word 12 → List Word × List Rot
  | 0, _, _ => ([], [])
  | n + 1, ρ, κ =>
    let κ' := scheduleRound S tm tr d κ ρ
    let later := genRkFrom S tm tr d n (ρ + 1) κ'
    (extractKm κ' ++ later.1, extractKr κ' ++ later.2)

/-- `GenRK(Tm, Tr, key, r, d)`: `6 · r` masking words and `6 · r` rotation amounts (R105). -/
def genRk (S : Sbox) (tm : List Word) (tr : List Rot) (key : List Byte) (r d : Nat) : List Word × List Rot :=
  genRkFrom S tm tr d r 0 (keyWords key)

/-- `GenRK` over the schedule the engine generates itself, `GenSched(r, d)` (R168, decision D26). -/
def genRoundKeys (S : Sbox) (key : List Byte) (r d : Nat) : List Word × List Rot :=
  genRk S (genSched r d).1 (genSched r d).2 key r d

/-- `DeriveKeys(key)`: the operating configuration, `r = 12`, `d = 4`, as the 72 + 72 entries of the round-key store
(R110). -/
@[irreducible] def deriveKeys (S : Sbox) (key : List Byte) : Vector Word 72 × Vector Rot 72 :=
  let rk := genRoundKeys S key Config.rounds Config.dpr
  (storeOf 72 0 rk.1, storeOf 72 0 rk.2)

end Sys2Proof.Machine
end

