-- ==== Sys2Proof/Machine/Ops.lean ====
section
/-! DEFINITION. The named operations on the state: answering a command, taking a fault, installing a key, the keystream
buffer, and reset. Every write of a register goes through one of them. -/

namespace Sys2Proof.Machine

/-- The `STATUS` code of a fault (R200). -/
def EngineFault.status : EngineFault → Byte
  | .illegalOpcode => 0x01
  | .badLength => 0x02
  | .notKeyed => 0x03
  | .ctrNotInit => 0x04
  | .badOperand => 0x05
  | .seekRange => 0x06
  | .ctrExhausted => 0x07

/-- `STATUS = 0x00`, `OK` (R62). -/
def statusOk : Byte := 0x00

/-- A response frame: `STATUS`, the 24-bit `RLEN`, then the payload (R62). -/
def responseFrame (status : Byte) (payload : List Byte) : List Byte :=
  status :: bytes24 payload.length ++ payload

/-- Sends bytes on the response port, after those already sent (R66). -/
def State.send (s : State) (frame : List Byte) : State :=
  { s with respPort := s.respPort ++ frame }

/-- `respond(p)`: complete the command with `OK` and payload `p` (R11, R16). -/
def State.respond (s : State) (p : List Byte) : State :=
  s.send (responseFrame statusOk p)

/-- TAKING A FAULT, `raise <Fault>`: the response is `STATUS 00 00 00`, no item of state is written, and the engine is
ready for the next command (R11, R204). There is no handler, no saved state and nothing to return from (R211). -/
def State.raiseFault (s : State) (f : EngineFault) : State :=
  s.send (responseFrame f.status [])

/-- `KM <- km ; KR <- kr`: all 72 + 72 entries in one step (R24). -/
def State.setRoundKeys (rk : Vector Word 72 × Vector Rot 72) (s : State) : State :=
  { s with km := rk.1, kr := rk.2 }

/-- `KM <- km ; KR <- kr ; KEY_VALID <- 1` with the round keys of `key` (R107, R145). -/
def State.installKey (S : Sbox) (key : List Byte) (s : State) : State :=
  (s.setRoundKeys (deriveKeys S key)).setKeyValid

/-- `CTR <- n ; CUR <- 24`: moves the position to the start of block `n` and discards the buffered keystream. `KS` keeps
its contents, which no command can read while `CUR = 24` (R30, R53; log entry 3). -/
def State.moveTo (n : Nat) (s : State) : State :=
  { s with ctr := n, cur := Config.blockBytes }

/-- `Refill()`: the block of index `CTR` into `KS`, `CTR <- CTR + 1` without wrapping, `CUR <- 0` (R142, R143). -/
def State.refill (S : Sbox) (s : State) : State :=
  { s with ks := ksBlock S s.km s.kr s.nonce s.ctr, ctr := s.ctr + 1, cur := 0 }

/-- `if CUR = 24: Refill()`, done just before a data byte is consumed (R142, R144). -/
def State.refillIfEmpty (S : Sbox) (s : State) : State :=
  if s.cur = Config.blockBytes then s.refill S else s

/-- `KS[CUR]` (R47). The index is in range in every state with `CUR < 24`; log entry 8 for the others. -/
def State.ksByte (s : State) : Byte :=
  s.ks.toList.getD s.cur 0

/-- `CUR <- CUR + 1`, the second half of a keystream read (R47). -/
def State.advance (s : State) : State :=
  { s with cur := s.cur + 1 }

/-- `Reset()`, as one step: both flags cleared, every other register at its value after reset, whatever has been received
on the command port discarded, so that a command in progress is abandoned without a response (R220, R223). Complete
response frames already sent stay sent (log entries 2 and 6). The reset input is a pulse and is cleared. -/
def State.applyReset (s : State) : State :=
  { State.reset with respPort := s.respPort }

end Sys2Proof.Machine
end

