-- ==== Sys2Proof/Machine/CipherInstance.lean ====
section
/-! DEFINITION. The commands of the Cipher Instance API: KEY_INIT, ENC_BLOCK, DEC_BLOCK, RD_KM, RD_KR (R107, R127, R128,
R165, R166). Each command is first a function of the tables `S`, as the spec's rules are, and its meaning is that
function at the engine's own tables. -/

namespace Sys2Proof.Machine

/-- KEY_INIT: installs the round keys of a key of any length (R107). -/
def keyInitCommand (S : Sbox) (key : List Byte) (s : State) : State :=
  (s.installKey S key).respond []

/-- The shared body of ENC_BLOCK and DEC_BLOCK: the length check, then the key check, then the transform (R127, R128). -/
def blockCommand (transform : Vector Word 72 → Vector Rot 72 → Vector Byte 24 → Vector Byte 24) (p : List Byte)
    (s : State) : State :=
  match operandsB p with
  | none => s.raiseFault .badLength
  | some blk =>
    if s.keyValid then s.respond (transform s.km s.kr blk).toList
    else s.raiseFault .notKeyed

/-- The shared body of RD_KM and RD_KR: the length check, then the key check, then the store as words (R165, R166). -/
def readStoreCommand (store : State → List Word) (p : List Byte) (s : State) : State :=
  match operandsN p with
  | none => s.raiseFault .badLength
  | some () =>
    if s.keyValid then s.respond (bytes (store s))
    else s.raiseFault .notKeyed

/-- KEY_INIT (R107). -/
def execKeyInit (key : List Byte) (s : State) : Host.Outcome State Fault Refusal :=
  .next (keyInitCommand Config.sbox key s)

/-- ENC_BLOCK (R127). -/
def execEncBlock (p : List Byte) (s : State) : Host.Outcome State Fault Refusal :=
  .next (blockCommand (encBlock Config.sbox) p s)

/-- DEC_BLOCK (R128). -/
def execDecBlock (p : List Byte) (s : State) : Host.Outcome State Fault Refusal :=
  .next (blockCommand (decBlock Config.sbox) p s)

/-- RD_KM: `bytes(KM[0..71])` (R165). -/
def execRdKm (p : List Byte) (s : State) : Host.Outcome State Fault Refusal :=
  .next (readStoreCommand (fun s => s.km.toList) p s)

/-- RD_KR: `bytes([zext_32(KR[0]), ..., zext_32(KR[71])])` (R166). -/
def execRdKr (p : List Byte) (s : State) : Host.Outcome State Fault Refusal :=
  .next (readStoreCommand (fun s => s.kr.toList.map rotWord) p s)

end Sys2Proof.Machine
end

