-- ==== Sys2Proof/Machine/CtrMode.lean ====
section
/-! DEFINITION. The CTR streaming mode: the streaming XOR, the stream position, and the commands CTR_INIT, CTR_ENCRYPT,
CTR_DECRYPT, CTR_SEEK (R144 to R148, R151). -/

namespace Sys2Proof.Machine

/-- `CtrXor(data)`: each byte, in order, with the next unconsumed keystream byte, refilling just before a byte is
consumed while the buffer is empty (R144). Answers the output and the state. -/
def ctrXor (S : Sbox) : List Byte → State → List Byte × State
  | [], s => ([], s)
  | b :: data, s =>
    let s' := s.refillIfEmpty S
    let later := ctrXor S data s'.advance
    ((b ^^^ s'.ksByte) :: later.1, later.2)

/-- The stream position `P = 24 · CTR − (24 − CUR)`: the index in the keystream of the next byte to be consumed (R151). -/
def State.position (s : State) : Nat :=
  24 * s.ctr - (24 - s.cur)

/-- The body that CTR_ENCRYPT and CTR_DECRYPT share: the CTR check, then the exhaustion check, both before any byte is
processed, then the streaming XOR (R146). -/
def ctrDataCommand (S : Sbox) (data : List Byte) (s : State) : State :=
  if s.ctrValid then
    if s.wouldExhaust data.length then s.raiseFault .ctrExhausted
    else
      let r := ctrXor S data s
      r.2.respond r.1
  else s.raiseFault .ctrNotInit

/-- `NONCE <- nonce` (R28, R145). -/
def State.setNonce (nonce : Vector Byte 16) (s : State) : State :=
  { s with nonce := nonce }

/-- CTR_INIT: installs the key, stores the nonce, position 0, empty buffer, `CTR_VALID <- 1`, all in one step (R145). -/
def ctrInitCommand (S : Sbox) (p : List Byte) (s : State) : State :=
  match operandsNK p with
  | none => s.raiseFault .badLength
  | some (nonce, key) => ((((s.installKey S key).setNonce nonce).moveTo 0).setCtrValid).respond []

/-- CTR_SEEK: the CTR check, then the range check, then `CTR <- v ; CUR <- 24` (R148). -/
def ctrSeekCommand (counterBytes : List Byte) (s : State) : State :=
  if s.ctrValid then
    if beInt counterBytes < Config.ctrLimit then (s.moveTo (beInt counterBytes)).respond []
    else s.raiseFault .seekRange
  else s.raiseFault .ctrNotInit

/-- CTR_INIT (R145). -/
def execCtrInit (p : List Byte) (s : State) : Host.Outcome State Fault Refusal :=
  .next (ctrInitCommand Config.sbox p s)

/-- CTR_ENCRYPT (R146). -/
def execCtrEncrypt (data : List Byte) (s : State) : Host.Outcome State Fault Refusal :=
  .next (ctrDataCommand Config.sbox data s)

/-- CTR_DECRYPT: the same operation as CTR_ENCRYPT, with an opcode of its own (R77, R147). -/
def execCtrDecrypt (data : List Byte) (s : State) : Host.Outcome State Fault Refusal :=
  .next (ctrDataCommand Config.sbox data s)

/-- CTR_SEEK (R148). -/
def execCtrSeek (counterBytes : List Byte) (s : State) : Host.Outcome State Fault Refusal :=
  .next (ctrSeekCommand counterBytes s)

end Sys2Proof.Machine
end

