-- ==== Sys2Proof/Machine/Validation.lean ====
section
/-! DEFINITION. The eleven validation commands: GEN_SCHED, GEN_RK, DODECAD, HEXAD, HEXADINV, F1 to F6 (R167 to R179).
They read no register and write none; their response is a function of the payload and the tables alone (R178). -/

namespace Sys2Proof.Machine

/-- The answer of a validation command: a response payload, or the fault it raises. -/
def State.answer (s : State) (a : Except EngineFault (List Byte)) : State :=
  match a with
  | .ok p => s.respond p
  | .error f => s.raiseFault f

/-- Masking words, then rotation amounts as words: the response layout of GEN_SCHED and GEN_RK (R74, R167, R168). -/
def pairBytes (t : List Word × List Rot) : List Byte :=
  bytes t.1 ++ bytes (t.2.map rotWord)

/-- GEN_SCHED's answer (R167). -/
def genSchedAnswer (p : List Byte) : Except EngineFault (List Byte) :=
  match operandsP p with
  | none => .error .badLength
  | some (r, d) => .ok (pairBytes (genSched r d))

/-- GEN_RK's answer (R168). -/
def genRkAnswer (S : Sbox) (p : List Byte) : Except EngineFault (List Byte) :=
  match operandsPK p with
  | none => .error .badLength
  | some (r, d, key) => .ok (pairBytes (genRoundKeys S key r d))

/-- DODECAD's answer (R169). -/
def dodecadAnswer (S : Sbox) (p : List Byte) : Except EngineFault (List Byte) :=
  match operandsD p with
  | none => .error .badLength
  | some (k, tm, trWords) =>
    match rotOperands trWords with
    | none => .error .badOperand
    | some tr => .ok (bytes (dodecad S k tm tr).toList)

/-- The answer that HEXAD and HEXADINV share, for the round function given (R170, R171). -/
def hexadAnswer (round : Vector Word 6 → Vector Word 6 → Vector Rot 6 → Vector Word 6) (p : List Byte) :
    Except EngineFault (List Byte) :=
  match operandsH p with
  | none => .error .badLength
  | some (w, km, krWords) =>
    match rotOperands krWords with
    | none => .error .badOperand
    | some kr => .ok (bytes (round w km kr).toList)

/-- The template of the six F commands, for the combine function given (R179). -/
def fAnswer (f : Word → Word → Rot → Word) (p : List Byte) : Except EngineFault (List Byte) :=
  match operandsF p with
  | none => .error .badLength
  | some (d, km, krWord) =>
    match rotOperand krWord with
    | none => .error .badOperand
    | some kr => .ok (bytes32 (f d km kr))

/-- GEN_SCHED (R167). -/
def execGenSched (p : List Byte) (s : State) : Host.Outcome State Fault Refusal :=
  .next (s.answer (genSchedAnswer p))

/-- GEN_RK (R168). It does not install the keys it computes. -/
def execGenRk (p : List Byte) (s : State) : Host.Outcome State Fault Refusal :=
  .next (s.answer (genRkAnswer Config.sbox p))

/-- DODECAD (R169). -/
def execDodecad (p : List Byte) (s : State) : Host.Outcome State Fault Refusal :=
  .next (s.answer (dodecadAnswer Config.sbox p))

/-- HEXAD (R170). -/
def execHexad (p : List Byte) (s : State) : Host.Outcome State Fault Refusal :=
  .next (s.answer (hexadAnswer (hexad Config.sbox) p))

/-- HEXADINV (R171). -/
def execHexadInv (p : List Byte) (s : State) : Host.Outcome State Fault Refusal :=
  .next (s.answer (hexadAnswer (hexadInv Config.sbox) p))

/-- F1 (R172). -/
def execF1 (p : List Byte) (s : State) : Host.Outcome State Fault Refusal :=
  .next (s.answer (fAnswer (F1 Config.sbox) p))

/-- F2 (R173). -/
def execF2 (p : List Byte) (s : State) : Host.Outcome State Fault Refusal :=
  .next (s.answer (fAnswer (F2 Config.sbox) p))

/-- F3 (R174). -/
def execF3 (p : List Byte) (s : State) : Host.Outcome State Fault Refusal :=
  .next (s.answer (fAnswer (F3 Config.sbox) p))

/-- F4 (R175). -/
def execF4 (p : List Byte) (s : State) : Host.Outcome State Fault Refusal :=
  .next (s.answer (fAnswer (F4 Config.sbox) p))

/-- F5 (R176). -/
def execF5 (p : List Byte) (s : State) : Host.Outcome State Fault Refusal :=
  .next (s.answer (fAnswer (F5 Config.sbox) p))

/-- F6 (R177). -/
def execF6 (p : List Byte) (s : State) : Host.Outcome State Fault Refusal :=
  .next (s.answer (fAnswer (F6 Config.sbox) p))

end Sys2Proof.Machine
end

