-- ==== Sys2Proof/Machine/Dispatch.lean ====
section
/-! DEFINITION. What each command does: one arm per command of the opcode map (R65). -/

namespace Sys2Proof.Machine

open Sys2Proof

def exec (i : Instr) (s : State) : Host.Outcome State Fault Refusal :=
  match i with
  | .keyInit key => Sys2Proof.Machine.execKeyInit key s
  | .encBlock p => Sys2Proof.Machine.execEncBlock p s
  | .decBlock p => Sys2Proof.Machine.execDecBlock p s
  | .rdKm p => Sys2Proof.Machine.execRdKm p s
  | .rdKr p => Sys2Proof.Machine.execRdKr p s
  | .ctrInit p => Sys2Proof.Machine.execCtrInit p s
  | .ctrEncrypt data => Sys2Proof.Machine.execCtrEncrypt data s
  | .ctrDecrypt data => Sys2Proof.Machine.execCtrDecrypt data s
  | .ctrSeek counterBytes => Sys2Proof.Machine.execCtrSeek counterBytes s
  | .genSched p => Sys2Proof.Machine.execGenSched p s
  | .genRk p => Sys2Proof.Machine.execGenRk p s
  | .dodecad p => Sys2Proof.Machine.execDodecad p s
  | .hexad p => Sys2Proof.Machine.execHexad p s
  | .hexadInv p => Sys2Proof.Machine.execHexadInv p s
  | .f1 p => Sys2Proof.Machine.execF1 p s
  | .f2 p => Sys2Proof.Machine.execF2 p s
  | .f3 p => Sys2Proof.Machine.execF3 p s
  | .f4 p => Sys2Proof.Machine.execF4 p s
  | .f5 p => Sys2Proof.Machine.execF5 p s
  | .f6 p => Sys2Proof.Machine.execF6 p s

end Sys2Proof.Machine
end

