-- ==== Sys2Proof/WellFormed.lean ====
section
/-! DEFINITION. Which command terms a frame can carry. The one bound is the 24-bit `LEN` field (R61): a payload of
2^24 bytes or more has no frame. A payload whose length is not legal for its command is still a frame, and is answered
`BAD_LENGTH` (R68), so it is well formed here. -/

namespace Sys2Proof

/-- The command's payload fits the 24-bit `LEN` field of a frame (R61: 0..2^24 - 1). The decoder gives no other term (log
entry 7). -/
abbrev Instr.WellFormed (i : Instr) : Prop :=
  i.payload.length < Config.lenLimit

end Sys2Proof
end

