-- ==== Sys2Proof/Decode.lean ====
section
/-! DEFINITION. Command frames: reading them and writing them (R60, R61, R65, R67, R70). Decoding is total, needs no
state, and selects the command by `OPC` alone. -/

namespace Sys2Proof

open Machine

/-- One complete command frame: its opcode and its `LEN` payload bytes (R60, R61). -/
structure Frame where
  /-- `OPC`, byte 0 of the frame. -/
  opc : Byte
  /-- The `LEN` payload bytes. -/
  payload : List Byte
  deriving DecidableEq, Repr

/-- Why no command is read. -/
inductive DecodeError where
  /-- Fewer than `4 + LEN` bytes are there: not yet a command (R66). -/
  | incomplete
  /-- The frame's opcode is reserved (R67); `rest` is what follows the whole frame. -/
  | illegalOpcode (opc : Byte) (rest : List Byte)
  deriving DecidableEq, Repr

/-- The first complete frame of a byte stream and the bytes after it: exactly `4 + LEN` bytes are taken (R60). -/
def takeFrame : List Byte → Option (Frame × List Byte)
  | opc :: l2 :: l1 :: l0 :: tail =>
    let len := beInt [l2, l1, l0]
    if tail.length < len then none
    else some (⟨opc, tail.take len⟩, tail.drop len)
  | _ => none

/-- The opcode map (R65); `none` for the 236 reserved values (R67). -/
def commandOf (opc : Byte) (p : List Byte) : Option Instr :=
  match opc.toNat with
  | 0x10 => some (.keyInit p)
  | 0x11 => some (.encBlock p)
  | 0x12 => some (.decBlock p)
  | 0x13 => some (.rdKm p)
  | 0x14 => some (.rdKr p)
  | 0x20 => some (.ctrInit p)
  | 0x21 => some (.ctrEncrypt p)
  | 0x22 => some (.ctrDecrypt p)
  | 0x23 => some (.ctrSeek p)
  | 0x30 => some (.genSched p)
  | 0x31 => some (.genRk p)
  | 0x32 => some (.dodecad p)
  | 0x33 => some (.hexad p)
  | 0x34 => some (.hexadInv p)
  | 0x41 => some (.f1 p)
  | 0x42 => some (.f2 p)
  | 0x43 => some (.f3 p)
  | 0x44 => some (.f4 p)
  | 0x45 => some (.f5 p)
  | 0x46 => some (.f6 p)
  | _ => none

/-- Reads the first command of a byte stream, with the bytes that follow its frame. -/
def decode (stream : List Byte) : Except DecodeError (Instr × List Byte) :=
  match takeFrame stream with
  | none => .error .incomplete
  | some (f, rest) =>
    match commandOf f.opc f.payload with
    | none => .error (.illegalOpcode f.opc rest)
    | some i => .ok (i, rest)

/-- The opcode of a command (R65). -/
def Instr.opcode : Instr → Byte
  | .keyInit _ => 0x10
  | .encBlock _ => 0x11
  | .decBlock _ => 0x12
  | .rdKm _ => 0x13
  | .rdKr _ => 0x14
  | .ctrInit _ => 0x20
  | .ctrEncrypt _ => 0x21
  | .ctrDecrypt _ => 0x22
  | .ctrSeek _ => 0x23
  | .genSched _ => 0x30
  | .genRk _ => 0x31
  | .dodecad _ => 0x32
  | .hexad _ => 0x33
  | .hexadInv _ => 0x34
  | .f1 _ => 0x41
  | .f2 _ => 0x42
  | .f3 _ => 0x43
  | .f4 _ => 0x44
  | .f5 _ => 0x45
  | .f6 _ => 0x46

/-- The frame of an opcode and a payload: header `OPC`, `LEN`, then the payload (R60, R61). -/
def frameBytes (opc : Byte) (payload : List Byte) : List Byte :=
  opc :: bytes24 payload.length ++ payload

/-- Writes a command as its frame (R60, R61, R65). -/
def encode (i : Instr) : List Byte :=
  frameBytes i.opcode i.payload

/-- Byte `k` of an instruction given as the number `w` of `nbits` bits, as spec/opcode_table.json numbers them: 32-bit
words, the first lowest in the number, each stored most significant byte first (R40; log entry 15). -/
def tableByte (nbits w k : Nat) : Byte :=
  BitVec.ofNat 8 ((w % 2 ^ nbits) >>> (32 * (k / 4) + (24 - 8 * (k % 4))))

/-- The whole frame of an instruction given as a number: its header word, then the `LEN` payload bytes the header asks
for, taken from the bits above (zero above `nbits`). -/
def tableFrame (nbits w : Nat) : List Byte :=
  let header := (List.range 4).map (tableByte nbits w)
  header ++ (List.range (beInt header.tail)).map fun k => tableByte nbits w (4 + k)

/-- The command the decoder reads from the frame of a table word; `none` where it reads none. -/
def decodeTableWord (nbits w : Nat) : Option Instr :=
  match decode (tableFrame nbits w) with
  | .ok (i, _) => some i
  | .error _ => none

end Sys2Proof
end

