-- ==== Sys2Proof/Machine/Fetch.lean ====
section
/-! DEFINITION. What the engine finds at its inputs when a step begins: the reset input first, then the command port.
There is no program counter and no fetch from memory (R27, R52); a command is taken from the port as a whole frame
(R60, R66). -/

namespace Sys2Proof.Machine

open Sys2Proof

/-- What a step has to do. -/
inductive Pending where
  /-- Nothing but go to the state given: reset, a wait for the rest of a frame, or a reserved opcode refused. -/
  | settled (s : State)
  /-- Run the command, whose frame the state given has already consumed. -/
  | command (i : Instr) (s : State)

/-- The bytes of the command port that follow a consumed frame. -/
def State.setCmdPort (rest : List Byte) (s : State) : State :=
  { s with cmdPort := rest }

/-- The next thing to do. Reset comes before any command (R220). An incomplete frame has no effect and is waited for,
without a timeout (R66, R233). A frame with a reserved opcode is consumed in full and answered `ILLEGAL_OPCODE` (R67,
R201). -/
def State.pending (s : State) : Pending :=
  if s.resetLine then .settled s.applyReset
  else
    match decode s.cmdPort with
    | .error .incomplete => .settled s
    | .error (.illegalOpcode _ rest) => .settled ((s.setCmdPort rest).raiseFault .illegalOpcode)
    | .ok (i, rest) => .command i (s.setCmdPort rest)

/-- The state whose next step runs the instruction of a table word: its frame alone on the command port, no reset. -/
def State.loadWord (s : State) (nbits w : Nat) : State :=
  { s with cmdPort := tableFrame nbits w, resetLine := false }

end Sys2Proof.Machine
end

