-- ==== Sys2Proof/Machine/Step.lean ====
section
/-! DEFINITION. One step of the engine: one command executed to completion, in arrival order (R50), or one reset, or a
wait. -/

namespace Sys2Proof.Machine

/-- One step (R13, R16, R50, R220). -/
def step (s : State) : Host.Outcome State Fault Refusal :=
  match s.pending with
  | .settled t => .next t
  | .command i t => exec i t

/-- The state `s` with the instruction of a table word where the next step fetches: alone on the command port, the reset
input low. It stands for the host sending that one frame (log entry 5). -/
def State.withFetchWord (s : State) (nbits w : Nat) : State :=
  s.loadWord nbits w

end Sys2Proof.Machine
end

