-- ==== Sys2Proof/Machine/HostPort.lean ====
section
/-! DEFINITION. What the host may do to an engine, between its steps (R13, R18): send bytes on the command port, take the
responses, assert reset. The step itself never does any of these. -/

namespace Sys2Proof.Machine

open Sys2Proof

/-- The host sends bytes on the command port: one frame, several back to back, or part of one (R18, R60, R66). -/
def State.hostSend (stream : List Byte) (s : State) : State :=
  { s with cmdPort := s.cmdPort ++ stream }

/-- The host sends one command as its frame (R18, R60). -/
def State.hostCommand (i : Instr) (s : State) : State :=
  s.hostSend (encode i)

/-- The host asserts reset, at any time (R18, R220). The next step acts on it, before any command that is complete on
the command port. -/
def State.hostReset (s : State) : State :=
  { s with resetLine := true }

/-- The host takes the response bytes that have been sent (R18, R62). -/
def State.hostTake (s : State) : List Byte × State :=
  (s.respPort, { s with respPort := [] })

end Sys2Proof.Machine
end

