-- ==== Sys2Proof/Safety.lean ====
section
/-! DEFINITION. What counts as a good state and a good run of the engine, in the words the statements use: the invariants
of rule R36, the commands run in sequence, and the constraint that the source puts on the tables. -/

namespace Sys2Proof.Machine

open Sys2Proof

/-- The register part of R36: when `CTR_VALID = 1`, (b) `1 ≤ CUR ≤ 24` between commands, (c) `CTR ≤ 2^64`, (d)
`KEY_VALID = 1`, and from (e) `CTR ≥ 1` when keystream is buffered. Its part (a) is the type of `KR`. Nothing is asked of
`CUR` and `CTR` while `CTR_VALID = 0`, when the spec leaves them unspecified (R221). -/
abbrev State.Inv (s : State) : Prop :=
  s.ctrValid = true →
    s.keyValid = true ∧ 1 ≤ s.cur ∧ s.cur ≤ 24 ∧ s.ctr ≤ 2 ^ 64 ∧ (s.cur < 24 → 1 ≤ s.ctr)

/-- `KM`, `KR` hold a derived round-key set whenever `KEY_VALID = 1` (R23). -/
def State.KeysDerived (S : Sbox) (s : State) : Prop :=
  s.keyValid = true → ∃ key, (s.km, s.kr) = deriveKeys S key

/-- R36 (e), over time: buffered keystream is the block of index `CTR − 1` under the round keys of some key that was
installed, and the nonce. -/
def State.BufferGenerated (S : Sbox) (s : State) : Prop :=
  s.ctrValid = true → s.cur < 24 →
    ∃ key, s.ks = ksBlock S (deriveKeys S key).1 (deriveKeys S key).2 s.nonce (s.ctr - 1)

/-- R36 (e), while no `KEY_INIT` has come since: buffered keystream is the block of index `CTR − 1` under the current
round keys and nonce. -/
def State.BufferCurrent (S : Sbox) (s : State) : Prop :=
  s.cur < 24 → s.ks = ksBlock S s.km s.kr s.nonce (s.ctr - 1)

/-- The commands of a list, executed one after the other (R50). -/
def execAll : List Instr → State → Host.Outcome State Fault Refusal
  | [], s => .next s
  | i :: is, s =>
    match exec i s with
    | .next t => execAll is t
    | .fault r => .fault r
    | .refused r => .refused r

/-- The twenty assigned opcodes (R65). -/
def assignedOpcodes : List Nat :=
  [0x10, 0x11, 0x12, 0x13, 0x14, 0x20, 0x21, 0x22, 0x23, 0x30, 0x31, 0x32, 0x33, 0x34, 0x41, 0x42, 0x43, 0x44, 0x45,
    0x46]

/-- Some of the `n` words of a payload from a byte offset on is above 31 (R206). -/
def someRotationAbove31 (p : List Byte) (off n : Nat) : Bool :=
  (List.range n).any fun j => 31 < (wordAt p (off + 4 * j)).toNat

/-- The fault matrix of rule R217 for the commands that check the length and then a flag: `ENC_BLOCK`, `DEC_BLOCK`,
`RD_KM`, `RD_KR`. -/
def keyedFault (len n : Nat) (s : State) : Option EngineFault :=
  if len ≠ n then some .badLength else if s.keyValid = false then some .notKeyed else none

/-- The fault matrix of rule R217 for the commands that check the length and then the rotation words: `DODECAD`, `HEXAD`,
`HEXADINV`, `F1` to `F6`. -/
def operandFault (p : List Byte) (len off n : Nat) : Option EngineFault :=
  if p.length ≠ len then some .badLength else if someRotationAbove31 p off n then some .badOperand else none

/-- The row of `CTR_ENCRYPT` and `CTR_DECRYPT` in the fault matrix of rule R217: "needs block `≥ 2^64`" is that the data
does not end within the `24 · 2^64` bytes of the keystream (R141, R208). -/
def ctrDataFault (len : Nat) (s : State) : Option EngineFault :=
  if s.ctrValid = false then some .ctrNotInit
  else if 24 * 2 ^ 64 < s.position + len then some .ctrExhausted
  else none

/-- The complete fault matrix of rule R217: the fault a command reports, if any. -/
def faultOf (i : Instr) (s : State) : Option EngineFault :=
  match i with
  | .keyInit _ => none
  | .encBlock p => keyedFault p.length 24 s
  | .decBlock p => keyedFault p.length 24 s
  | .rdKm p => keyedFault p.length 0 s
  | .rdKr p => keyedFault p.length 0 s
  | .ctrInit p => if p.length < 16 then some .badLength else none
  | .ctrEncrypt data => ctrDataFault data.length s
  | .ctrDecrypt data => ctrDataFault data.length s
  | .ctrSeek c =>
    if s.ctrValid = false then some .ctrNotInit else if 2 ^ 64 ≤ beInt c then some .seekRange else none
  | .genSched p => if p.length ≠ 2 then some .badLength else none
  | .genRk p => if p.length < 2 then some .badLength else none
  | .dodecad p => operandFault p 144 96 12
  | .hexad p => operandFault p 72 48 6
  | .hexadInv p => operandFault p 72 48 6
  | .f1 p => operandFault p 12 8 1
  | .f2 p => operandFault p 12 8 1
  | .f3 p => operandFault p 12 8 1
  | .f4 p => operandFault p 12 8 1
  | .f5 p => operandFault p 12 8 1
  | .f6 p => operandFault p 12 8 1

/-- `RLEN` of a command's `OK` response (R74). -/
def responseLength : Instr → Nat
  | .keyInit _ => 0
  | .encBlock _ => 24
  | .decBlock _ => 24
  | .rdKm _ => 288
  | .rdKr _ => 288
  | .ctrInit _ => 0
  | .ctrEncrypt data => data.length
  | .ctrDecrypt data => data.length
  | .ctrSeek _ => 0
  | .genSched p => 96 * (p.getD 0 0).toNat * (p.getD 1 0).toNat
  | .genRk p => 48 * (p.getD 0 0).toNat
  | .dodecad _ => 48
  | .hexad _ => 24
  | .hexadInv _ => 24
  | .f1 _ => 4
  | .f2 _ => 4
  | .f3 _ => 4
  | .f4 _ => 4
  | .f5 _ => 4
  | .f6 _ => 4

/-- `Vec1(SBOX)`: the one constraint the source puts on the tables, its first concrete vector (R9, `95_test_vectors.md`
L1.1). -/
def Vec1 (S : Sbox) : Prop :=
  (genRoundKeys S (List.replicate 48 0) 1 1).1.head? = some 0xED8CAEB7 ∧
    (genRoundKeys S (List.replicate 48 0) 1 1).2.head? = some 31

end Sys2Proof.Machine
end

