-- ==== Sys2Proof/Certificates/Slice0/Obligations.lean ====
section
/-! DEFINITION. The statements about the model, made from the numbered rules of spec/. Where a statement gives the whole
next state, the frame is in the equation: every register not named keeps its value. -/

open Sys2Proof Sys2Proof.Machine

/-! ### Encoding (R41, R42, R60, R61, R65, R67) -/

/-- Decoding the frame of any command a frame can carry gives that command and the bytes after the frame (R60, R61, R65). -/
def Obligations.DecodeOfEncodeGivesTheCommand : Prop :=
  ∀ (i : Instr) (rest : List Byte), i.WellFormed → decode (encode i ++ rest) = .ok (i, rest)

/-- A command is decoded from exactly its own frame: what is read, written again, is what was there (R60, R61). -/
def Obligations.EncodeOfDecodedCommandGivesTheFrame : Prop :=
  ∀ (stream rest : List Byte) (i : Instr), decode stream = .ok (i, rest) → stream = encode i ++ rest ∧ i.WellFormed

/-- Frames written out byte by byte from R61 and R65, one for each group of commands, decode to their commands. -/
def Obligations.FramesWrittenFromTheSpecDecode : Prop :=
  decode [0x10, 0, 0, 1, 0xAA] = .ok (.keyInit [0xAA], []) ∧
  decode [0x23, 0x00, 0x00, 0x02, 0x01, 0xFF] = .ok (.ctrSeek [0x01, 0xFF], []) ∧
  decode [0x31, 0x00, 0x00, 0x02, 0x01, 0x01, 0x13] = .ok (.genRk [0x01, 0x01], [0x13]) ∧
  decode [0x46, 0x00, 0x00, 0x0C, 0xF8, 0x1B, 0x20, 0xBF, 0x1D, 0xDF, 0x99, 0x84, 0x00, 0x00, 0x00, 0x0E] =
    .ok (.f6 [0xF8, 0x1B, 0x20, 0xBF, 0x1D, 0xDF, 0x99, 0x84, 0x00, 0x00, 0x00, 0x0E], []) ∧
  decode [0x99, 0x00, 0x00, 0x01, 0xDE, 0x14] = .error (.illegalOpcode 0x99 [0x14])

/-- R67: the reserved opcodes are the 236 values not in the opcode map, every other opcode selects a command; a frame with
a reserved one is consumed in full and answered `ILLEGAL_OPCODE`, and no state changes. -/
def Obligations.ReservedOpcodeIsRefusedWhole : Prop :=
  ((List.range 256).filter (fun n => n ∉ assignedOpcodes) =
    List.range 0x10 ++ List.range' 0x15 11 ++ List.range' 0x24 12 ++ List.range' 0x35 12 ++ List.range' 0x47 185) ∧
  ((List.range 256).filter fun n => n ∉ assignedOpcodes).length = 236 ∧
  (∀ (opc : Byte) (p : List Byte), commandOf opc p = none ↔ opc.toNat ∉ assignedOpcodes) ∧
  ∀ (s : State) (opc : Byte) (payload rest : List Byte),
    opc.toNat ∉ assignedOpcodes → payload.length < 2 ^ 24 → s.resetLine = false →
    s.cmdPort = opc :: bytes24 payload.length ++ payload ++ rest →
      step s = .next { s with cmdPort := rest, respPort := s.respPort ++ [0x01, 0x00, 0x00, 0x00] }

/-- R41: word sequences and byte sequences turn into each other, the byte at the lower index being the more significant. -/
def Obligations.WordsAndBytesAreInverse : Prop :=
  (∀ b0 b1 b2 b3 : Byte,
    (be32 b0 b1 b2 b3).toNat = b0.toNat * 2 ^ 24 + b1.toNat * 2 ^ 16 + b2.toNat * 2 ^ 8 + b3.toNat ∧
      bytes32 (be32 b0 b1 b2 b3) = [b0, b1, b2, b3]) ∧
  (∀ (n : Nat) (ws : Vector Word n) (before after : List Byte),
    wordsAt n (before ++ bytes ws.toList ++ after) before.length = ws) ∧
  ∀ (n : Nat) (s : List Byte), s.length = 4 * n → bytes (wordsAt n s 0).toList = s

/-- R42: the counter field is the 8-byte big-endian integer; a seek operand is one of any length, leading zero bytes do
not change it, and the empty sequence is 0. -/
def Obligations.CounterBytesAreBigEndian : Prop :=
  (∀ n, n < 2 ^ 64 → beInt (bytes64 n).toList = n) ∧
  (∀ k bs, beInt (List.replicate k 0 ++ bs) = beInt bs) ∧
  (∀ bs (b : Byte), beInt (bs ++ [b]) = 256 * beInt bs + b.toNat) ∧
  beInt [] = 0 ∧ beInt [0x03] = 3 ∧ beInt [0x01, 0xFF] = 0x01FF

/-! ### A step (R16, R50, R62, R66, R204, R217, R220) -/

/-- With reset low and a command complete on the port, a step consumes the command's frame and executes it. -/
def Obligations.StepRunsTheDecodedCommand : Prop :=
  ∀ (s : State) (i : Instr) (rest : List Byte), s.resetLine = false → decode s.cmdPort = .ok (i, rest) → i.WellFormed →
    step s = exec i { s with cmdPort := rest }

/-- With reset low and only a part of a frame on the port, a step changes nothing: the engine waits (R66, R233). -/
def Obligations.IncompleteFrameIsWaitedFor : Prop :=
  ∀ s : State, s.resetLine = false →
    (s.cmdPort.length < 4 ∨ s.cmdPort.length < 4 + beInt ((s.cmdPort.drop 1).take 3)) → step s = .next s

/-- R220: with reset asserted, a step clears both flags and drops a partly received frame, without a response. The rest is
the model's choice: that every other register takes its value of `State.reset` (log entry 2), and that a complete frame
still queued is dropped too, that responses already sent stay, and that the step clears the reset line, so that reset is
a pulse (log entry 6). -/
def Obligations.ResetLineResetsTheEngine : Prop :=
  (State.reset.keyValid = false ∧ State.reset.ctrValid = false ∧ State.reset.cmdPort = [] ∧ State.reset.respPort = []) ∧
  ∀ s : State, s.resetLine = true → step s = .next { State.reset with respPort := s.respPort }

/-- Every complete frame, whatever its opcode, is consumed whole and answered by exactly one response frame, whose
`RLEN` is the length of its payload; a fault has a code 0x01 to 0x07 and no payload (R62, R66, R200). -/
def Obligations.EveryFrameGetsExactlyOneResponse : Prop :=
  ∀ (s : State) (f : Frame) (rest : List Byte), s.resetLine = false → takeFrame s.cmdPort = some (f, rest) →
    ∃ (t : State) (status : Byte) (p : List Byte),
      step s = .next t ∧ t.cmdPort = rest ∧ t.resetLine = false ∧ p.length < 2 ^ 24 ∧
      t.respPort = s.respPort ++ (status :: bytes24 p.length ++ p) ∧ status.toNat ≤ 7 ∧ (status ≠ 0 → p = [])

/-- R204: when the response of a frame carries a fault, the frame has been consumed, no item of state is written, the
response is `STATUS 00 00 00`, and the engine is ready for what follows. -/
def Obligations.FaultLeavesNoTrace : Prop :=
  ∀ (s t : State) (f : Frame) (rest : List Byte) (status : Byte) (p : List Byte), s.resetLine = false →
    takeFrame s.cmdPort = some (f, rest) → step s = .next t →
    t.respPort = s.respPort ++ (status :: bytes24 p.length ++ p) → status ≠ 0 →
      t = { s with cmdPort := rest, respPort := s.respPort ++ [status, 0x00, 0x00, 0x00] }

/-- The fault matrix of R217 decides every command's outcome: the first fault of its row that applies is reported and
nothing else happens; where none applies the command completes with `OK` (R16, R209). Its last row is the reserved
opcodes'. -/
def Obligations.FaultMatrixDecidesTheOutcome : Prop :=
  (∀ (i : Instr) (s : State), s.Inv →
    (∀ f, faultOf i s = some f →
      exec i s = .next { s with respPort := s.respPort ++ [f.status, 0x00, 0x00, 0x00] }) ∧
    (faultOf i s = none →
      ∃ t p, exec i s = .next t ∧ t.respPort = s.respPort ++ (0x00 :: bytes24 p.length ++ p))) ∧
  ∀ (s : State) (f : Frame) (rest : List Byte), s.resetLine = false → takeFrame s.cmdPort = some (f, rest) →
    f.opc.toNat ∉ assignedOpcodes →
      step s = .next { s with cmdPort := rest,
                              respPort := s.respPort ++ [EngineFault.illegalOpcode.status, 0x00, 0x00, 0x00] }

/-- R74: the payload of an `OK` response has the length its command's row gives. -/
def Obligations.ResponseLengthIsTheTables : Prop :=
  ∀ (i : Instr) (s t : State) (p : List Byte), exec i s = .next t →
    t.respPort = s.respPort ++ (0x00 :: bytes24 p.length ++ p) → p.length = responseLength i

/-- R221: of two engines fresh from reset that differ in any register whose reset value is unspecified, and get the same
commands, the responses are the same for ever. -/
def Obligations.UnspecifiedResetContentsAreUnobservable : Prop :=
  ∀ (n : Nat) (s₁ s₂ : State),
    s₁.keyValid = false → s₂.keyValid = false → s₁.ctrValid = false → s₂.ctrValid = false →
    s₁.cmdPort = s₂.cmdPort → s₁.resetLine = s₂.resetLine → s₁.respPort = s₂.respPort →
    ∃ t₁ t₂, core.run n s₁ = .next t₁ ∧ core.run n s₂ = .next t₂ ∧ t₁.respPort = t₂.respPort

/-- The validation commands read no register and write none: one answer, fixed by the payload, is sent from every state;
`RD_KM` and `RD_KR` change nothing but the response port (R178). -/
def Obligations.ValidationCommandsArePure : Prop :=
  (∀ i : Instr, 0x30 ≤ i.opcode.toNat →
    ∃ frame, ∀ s : State, exec i s = .next { s with respPort := s.respPort ++ frame }) ∧
  ∀ (p : List Byte) (s : State),
    (∃ frame, exec (.rdKm p) s = .next { s with respPort := s.respPort ++ frame }) ∧
    ∃ frame, exec (.rdKr p) s = .next { s with respPort := s.respPort ++ frame }

/-! ### Invariants (R23, R36) -/

/-- The invariants hold right after reset. -/
def Obligations.InvariantsHoldAtReset : Prop :=
  State.reset.Inv ∧ State.reset.KeysDerived Config.sbox ∧ State.reset.BufferGenerated Config.sbox

/-- R36 (b), (c), (d) and `CTR ≥ 1` of (e): every step keeps the register invariant, and so does everything the host may
do between steps. -/
def Obligations.EveryStepKeepsTheRegisterInvariant : Prop :=
  (∀ s t : State, s.Inv → step s = .next t → t.Inv) ∧
  ∀ (s : State) (stream : List Byte), s.Inv → (s.hostSend stream).Inv ∧ s.hostReset.Inv ∧ s.hostTake.2.Inv

/-- R23 and R36 (e): every step keeps that the round keys in use, and the buffered keystream, come from a key that was
installed, the keystream at index `CTR − 1`. -/
def Obligations.EveryStepKeepsKeysAndKeystreamGenuine : Prop :=
  ∀ s t : State, s.Inv → s.KeysDerived Config.sbox → s.BufferGenerated Config.sbox → step s = .next t →
    t.KeysDerived Config.sbox ∧ t.BufferGenerated Config.sbox

/-- R36 (e), R226: buffered keystream that belongs to the current round keys stays so under every command but
`KEY_INIT`. -/
def Obligations.OnlyKeyInitMakesKeystreamStale : Prop :=
  ∀ (i : Instr) (s t : State), (∀ key, i ≠ .keyInit key) → exec i s = .next t → s.BufferCurrent Config.sbox →
    t.BufferCurrent Config.sbox

/-! ### Arithmetic and the combine functions (R83, R86 to R92, R172 to R177) -/

/-- R83: `rotl32` is the arithmetic formula of the rule, and bit `i` becomes bit `(i + n) mod 32`. -/
def Obligations.RotationIsCircularLeft : Prop :=
  (∀ v : Word, rotl32 v 0 = v) ∧
  (∀ (v : Word) (n : Rot), 1 ≤ n.toNat →
    (rotl32 v n).toNat = (v.toNat * 2 ^ n.toNat) % 2 ^ 32 + v.toNat / 2 ^ (32 - n.toNat)) ∧
  (∀ (v : Word) (n : Rot) (i : Nat), i < 32 → (rotl32 v n).getLsbD ((i + n.toNat) % 32) = v.getLsbD i) ∧
  rotl32 0x80000001 1 = 0x00000003 ∧ rotl32 0xEA5BAEFC 7 = 0x2DD77E75 ∧ rotl32 0xEA5BAEFC 31 = 0x752DD77E

/-- F1 to F6 complete from every state, for every data word, masking word and rotation amount 0..31: the response is the
word of rules R86 to R91, no register changes; a wrong length is refused first, then a rotation word above 31, which is
not reduced (R172 to R177, R179). -/
def Obligations.FCommandsAnswerTheCombineFunctions : Prop :=
  (∀ (d km : Word) (kr : Rot) (s : State),
    let p := bytes [d, km, rotWord kr]
    let S := Config.sbox
    let ok := fun w : Word => { s with respPort := s.respPort ++ ([0x00, 0x00, 0x00, 0x04] ++ bytes32 w) }
    let a := fun t : Word => S.s1 (t.extractLsb' 24 8)
    let b := fun t : Word => S.s2 (t.extractLsb' 16 8)
    let c := fun t : Word => S.s3 (t.extractLsb' 8 8)
    let e := fun t : Word => S.s4 (t.extractLsb' 0 8)
    let tAdd := rotl32 (d + km) kr
    let tXor := rotl32 (d ^^^ km) kr
    let tSub := rotl32 (km - d) kr
    exec (.f1 p) s = .next (ok (((a tAdd ^^^ b tAdd) - c tAdd) + e tAdd)) ∧
    exec (.f2 p) s = .next (ok (((a tXor - b tXor) + c tXor) ^^^ e tXor)) ∧
    exec (.f3 p) s = .next (ok (((a tSub + b tSub) ^^^ c tSub) - e tSub)) ∧
    exec (.f4 p) s = .next (ok (((a tSub ^^^ b tSub) + c tSub) - e tSub)) ∧
    exec (.f5 p) s = .next (ok (((a tAdd - b tAdd) ^^^ c tAdd) + e tAdd)) ∧
    exec (.f6 p) s = .next (ok (((a tXor + b tXor) - c tXor) ^^^ e tXor))) ∧
  ∀ (p : List Byte) (s : State) (status : Byte),
    (p.length ≠ 12 ∧ status = 0x02) ∨ (p.length = 12 ∧ 31 < (wordAt p 8).toNat ∧ status = 0x05) →
    let refused := { s with respPort := s.respPort ++ [status, 0x00, 0x00, 0x00] }
    exec (.f1 p) s = .next refused ∧ exec (.f2 p) s = .next refused ∧ exec (.f3 p) s = .next refused ∧
    exec (.f4 p) s = .next refused ∧ exec (.f5 p) s = .next refused ∧ exec (.f6 p) s = .next refused

/-- R206: a rotation word above 31 is refused by each command that takes one, at every place of the payload, and is not
reduced; nothing else is ever answered `BAD_OPERAND`. -/
def Obligations.RotationOperandAbove31IsRefused : Prop :=
  (∀ (s : State) (p : List Byte),
    let bad := { s with respPort := s.respPort ++ [0x05, 0x00, 0x00, 0x00] }
    (p.length = 12 → 31 < (wordAt p 8).toNat →
      exec (.f1 p) s = .next bad ∧ exec (.f2 p) s = .next bad ∧ exec (.f3 p) s = .next bad ∧
      exec (.f4 p) s = .next bad ∧ exec (.f5 p) s = .next bad ∧ exec (.f6 p) s = .next bad) ∧
    (p.length = 72 → ∀ j, j < 6 → 31 < (wordAt p (48 + 4 * j)).toNat →
      exec (.hexad p) s = .next bad ∧ exec (.hexadInv p) s = .next bad) ∧
    (p.length = 144 → ∀ j, j < 12 → 31 < (wordAt p (96 + 4 * j)).toNat → exec (.dodecad p) s = .next bad)) ∧
  ∀ (i : Instr) (s : State), exec i s = .next { s with respPort := s.respPort ++ [0x05, 0x00, 0x00, 0x00] } →
    ((∃ p, i ∈ [.f1 p, .f2 p, .f3 p, .f4 p, .f5 p, .f6 p] ∧ 31 < (wordAt p 8).toNat) ∨
      (∃ p j, i ∈ [.hexad p, .hexadInv p] ∧ j < 6 ∧ 31 < (wordAt p (48 + 4 * j)).toNat) ∨
      ∃ p j, i = .dodecad p ∧ j < 12 ∧ 31 < (wordAt p (96 + 4 * j)).toNat)

/-- With all table entries zero every combine function answers 0, the dodecad and both hexads are the identity, and so
are block encryption and decryption (R92 (d)). -/
def Obligations.ZeroTablesMakeTheCipherTheIdentity : Prop :=
  let Z : Sbox := ⟨fun _ => 0, fun _ => 0, fun _ => 0, fun _ => 0⟩
  (∀ i d km kr, combine Z i d km kr = 0) ∧
  (∀ k tm tr, dodecad Z k tm tr = k) ∧
  (∀ w km kr, hexad Z w km kr = w ∧ hexadInv Z w km kr = w) ∧
  ∀ km kr blk, encBlock Z km kr blk = blk ∧ decBlock Z km kr blk = blk

/-! ### The key schedule (R100 to R110, R167 to R169) -/

/-- GEN_SCHED completes from every state and answers the `12·r·d` entries of rule R100, `Tm` then `Tr`, each as a word; a
payload of another length is refused; no register changes (R101, R167). -/
def Obligations.GenSchedAnswersTheRecurrences : Prop :=
  (∀ (p : List Byte) (s : State), p.length ≠ 2 →
    exec (.genSched p) s = .next { s with respPort := s.respPort ++ [0x02, 0x00, 0x00, 0x00] }) ∧
  ∀ (r d : Byte) (s : State), ∃ p : List Byte,
    exec (.genSched [r, d]) s =
      .next { s with respPort := s.respPort ++ (0x00 :: bytes24 (96 * r.toNat * d.toNat) ++ p) } ∧
    p.length = 96 * r.toNat * d.toNat ∧
    ∀ i, i < 12 * r.toNat * d.toNat →
      (wordAt p (4 * i)).toNat = (0x5A827999 + i * 0x6ED9EBA1) % 2 ^ 32 ∧
      (wordAt p (4 * (12 * r.toNat * d.toNat + i))).toNat = (19 + 17 * i) % 32

/-- R108 (a), (b), (c), and the prefix property of R101. -/
def Obligations.TemporaryScheduleHasPeriodAndStep : Prop :=
  (∀ i, trEntry (i + 32) = trEntry i) ∧
  (∀ x : Rot, ∃ i, i < 32 ∧ trEntry i = x ∧ ∀ j, j < 32 → trEntry j = x → j = i) ∧
  (∀ i, tmEntry (i + 1) = tmEntry i + 0x6ED9EBA1) ∧
  (∀ i, (trEntry i).toNat ≤ 31) ∧
  ∀ r d r' d', r * d ≤ r' * d' →
    (genSched r d).1 <+: (genSched r' d').1 ∧ (genSched r d).2 <+: (genSched r' d').2

/-- R103, seen through KEY_INIT: zero bytes after a key of at most 48 bytes change nothing, and bytes of index 48 and
above change nothing; the normalised key has exactly 48 bytes. -/
def Obligations.KeyIsPaddedAndTruncatedTo48Bytes : Prop :=
  (∀ key, (normaliseKey key).length = 48) ∧
  (∀ key, 48 ≤ key.length → normaliseKey key = key.take 48) ∧
  (∀ key n, key.length + n = 48 → normaliseKey key = key ++ List.replicate n 0) ∧
  normaliseKey [0x01] = 0x01 :: List.replicate 47 0x00 ∧
  normaliseKey ((List.range 60).map (BitVec.ofNat 8)) = (List.range 48).map (BitVec.ofNat 8) ∧
  ∀ (s : State) (key more : List Byte) (n : Nat),
    (key.length + n ≤ 48 → exec (.keyInit (key ++ List.replicate n 0)) s = exec (.keyInit key) s) ∧
    (48 ≤ key.length → exec (.keyInit (key ++ more)) s = exec (.keyInit key) s)

/-- R109: for fixed pairs the dodecad is a bijection on 12-word blocks, for every value of the tables. -/
def Obligations.DodecadIsABijection : Prop :=
  ∀ (S : Sbox) (tm : Vector Word 12) (tr : Vector Rot 12), Function.Bijective fun k => dodecad S k tm tr

/-- R102: step by step, a dodecad's word `t` is the old word XORed with the combine function of the word the step before
has written (word 11 for the first step), with the step's own pair. -/
def Obligations.DodecadChainsEachWordIntoTheNext : Prop :=
  ∀ (S : Sbox) (k tm : Vector Word 12) (tr : Vector Rot 12),
    let r := dodecad S k tm tr
    r[10] = k[10] ^^^ F1 S k[11] tm[0] tr[0] ∧ r[9] = k[9] ^^^ F2 S r[10] tm[1] tr[1] ∧
    r[8] = k[8] ^^^ F3 S r[9] tm[2] tr[2] ∧ r[7] = k[7] ^^^ F4 S r[8] tm[3] tr[3] ∧
    r[6] = k[6] ^^^ F5 S r[7] tm[4] tr[4] ∧ r[5] = k[5] ^^^ F6 S r[6] tm[5] tr[5] ∧
    r[4] = k[4] ^^^ F1 S r[5] tm[6] tr[6] ∧ r[3] = k[3] ^^^ F2 S r[4] tm[7] tr[7] ∧
    r[2] = k[2] ^^^ F3 S r[3] tm[8] tr[8] ∧ r[1] = k[1] ^^^ F4 S r[2] tm[9] tr[9] ∧
    r[0] = k[0] ^^^ F5 S r[1] tm[10] tr[10] ∧ r[11] = k[11] ^^^ F6 S r[0] tm[11] tr[11]

/-- DODECAD completes from every state, with legal rotation words, and answers the new block; a wrong length is refused
first, then a rotation word above 31; no register changes (R169). -/
def Obligations.DodecadCommandAnswersTheNewBlock : Prop :=
  (∀ (k tm : Vector Word 12) (tr : Vector Rot 12) (s : State),
    exec (.dodecad (bytes k.toList ++ bytes tm.toList ++ bytes (tr.toList.map rotWord))) s =
      .next { s with respPort := s.respPort ++
        ([0x00, 0x00, 0x00, 0x30] ++ bytes (dodecad Config.sbox k tm tr).toList) }) ∧
  ∀ (p : List Byte) (s : State),
    (p.length ≠ 144 → exec (.dodecad p) s = .next { s with respPort := s.respPort ++ [0x02, 0x00, 0x00, 0x00] }) ∧
    (p.length = 144 → (∃ j, j < 12 ∧ 31 < (wordAt p (96 + 4 * j)).toNat) →
      exec (.dodecad p) s = .next { s with respPort := s.respPort ++ [0x05, 0x00, 0x00, 0x00] })

/-- R105 and R106, for any schedule long enough and every `r` and `d`: κ starts as the words of the normalised key; dodecad
`q` of round `ρ` turns the κ before it into the next with the schedule entries `o .. o + 11`, `o = 12·(ρ·d + q)`; κ is never
reset; and the keys of round `ρ` are taken from the κ after its `d` dodecads, odd words descending as masking keys and the
low 5 bits of even words ascending as rotation keys. Then the corner cases of R105, over the schedule the engine generates
itself: with no dodecad every round extracts from the key words; more rounds extend the sequences; one round of two
dodecads is the second round of two rounds of one. Last, the installed keys are those of 12 rounds of 4 dodecads (R110). -/
def Obligations.RoundKeyExtractionFollowsThePositions : Prop :=
  (∀ (S : Sbox) (tm : List Word) (tr : List Rot) (key : List Byte) (r d : Nat),
    12 * r * d ≤ tm.length → 12 * r * d ≤ tr.length →
    (genRk S tm tr key r d).1.length = 6 * r ∧ (genRk S tm tr key r d).2.length = 6 * r ∧
    ∃ κ : Nat → Vector Word 12, κ 0 = wordsAt 12 (normaliseKey key) 0 ∧
      (∀ ρ q, ρ < r → q < d →
        κ (ρ * d + q + 1) = dodecad S (κ (ρ * d + q))
          (Vector.ofFn fun i : Fin 12 => tm.getD (12 * (ρ * d + q) + i.val) 0)
          (Vector.ofFn fun i : Fin 12 => tr.getD (12 * (ρ * d + q) + i.val) 0)) ∧
      ∀ ρ j, ρ < r → j < 6 →
        (genRk S tm tr key r d).1.getD (6 * ρ + j) 0 = (κ ((ρ + 1) * d)).toList.getD (11 - 2 * j) 0 ∧
        ((genRk S tm tr key r d).2.getD (6 * ρ + j) 0).toNat = ((κ ((ρ + 1) * d)).toList.getD (2 * j) 0).toNat % 32) ∧
  (∀ (S : Sbox) (key : List Byte) (r ρ j : Nat), ρ < r → j < 6 →
    (genRoundKeys S key r 0).1.getD (6 * ρ + j) 0 = (keyWords key).toList.getD (11 - 2 * j) 0 ∧
    ((genRoundKeys S key r 0).2.getD (6 * ρ + j) 0).toNat = ((keyWords key).toList.getD (2 * j) 0).toNat % 32) ∧
  (∀ (S : Sbox) (key : List Byte) (r r' d : Nat), r ≤ r' →
    (genRoundKeys S key r d).1 <+: (genRoundKeys S key r' d).1 ∧
    (genRoundKeys S key r d).2 <+: (genRoundKeys S key r' d).2) ∧
  (∀ (S : Sbox) (key : List Byte),
    (genRoundKeys S key 1 2).1 = (genRoundKeys S key 2 1).1.drop 6 ∧
    (genRoundKeys S key 1 2).2 = (genRoundKeys S key 2 1).2.drop 6) ∧
  ∀ (S : Sbox) (key : List Byte),
    (∀ r d, genRoundKeys S key r d = genRk S (genSched r d).1 (genSched r d).2 key r d) ∧
    (deriveKeys S key).1.toList = (genRk S (genSched 12 4).1 (genSched 12 4).2 key 12 4).1 ∧
    (deriveKeys S key).2.toList = (genRk S (genSched 12 4).1 (genSched 12 4).2 key 12 4).2

/-- GEN_RK completes from every state, answers `6·r` masking words then `6·r` rotation amounts as words, and installs
nothing; a payload of fewer than two bytes is refused (R168). -/
def Obligations.GenRkAnswersTheRoundKeys : Prop :=
  (∀ (p : List Byte) (s : State), p.length < 2 →
    exec (.genRk p) s = .next { s with respPort := s.respPort ++ [0x02, 0x00, 0x00, 0x00] }) ∧
  ∀ (r d : Byte) (key : List Byte) (s : State),
    let rk := genRk Config.sbox (genSched r.toNat d.toNat).1 (genSched r.toNat d.toNat).2 key r.toNat d.toNat
    rk.1.length = 6 * r.toNat ∧ rk.2.length = 6 * r.toNat ∧
    exec (.genRk (r :: d :: key)) s = .next { s with respPort := s.respPort ++
      (0x00 :: bytes24 (48 * r.toNat) ++ (bytes rk.1 ++ bytes (rk.2.map rotWord))) }

/-- GEN_RK with `r = 12`, `d = 4` answers exactly what RD_KM and RD_KR answer after KEY_INIT of the same key,
concatenated (R110, R168). -/
def Obligations.GenRkAgreesWithTheInstalledKeys : Prop :=
  ∀ (key : List Byte) (s : State), ∃ km kr : List Byte,
    km.length = 288 ∧ kr.length = 288 ∧
    (∃ t, execAll [.keyInit key, .rdKm [], .rdKr []] s = .next t ∧
      t.respPort = s.respPort ++ [0x00, 0x00, 0x00, 0x00] ++ ([0x00, 0x00, 0x01, 0x20] ++ km) ++
        ([0x00, 0x00, 0x01, 0x20] ++ kr)) ∧
    exec (.genRk (0x0C :: 0x04 :: key)) s =
      .next { s with respPort := s.respPort ++ ([0x00, 0x00, 0x02, 0x40] ++ (km ++ kr)) }

/-- KEY_INIT completes for every key and from every state: both round-key stores are replaced whole, `KEY_VALID` is set,
and nothing else changes; the CTR state keeps its position and its buffer (R24, R107). -/
def Obligations.KeyInitReplacesTheRoundKeys : Prop :=
  ∀ (key : List Byte) (s : State),
    let rk := genRk Config.sbox (genSched 12 4).1 (genSched 12 4).2 key 12 4
    ∃ (km : Vector Word 72) (kr : Vector Rot 72), km.toList = rk.1 ∧ kr.toList = rk.2 ∧
      exec (.keyInit key) s = .next { s with km := km, kr := kr, keyValid := true,
                                             respPort := s.respPort ++ [0x00, 0x00, 0x00, 0x00] }

/-- R191: with the printed candidate tables, the source's first concrete vector holds. -/
def Obligations.CandidateTablesMeetTheFirstVector : Prop :=
  Vec1 sboxCast128

/-! ### The block kernel (R120 to R129, R165, R166, R170, R171) -/

/-- R122: with the same pairs, the inverse hexad undoes the hexad and the hexad undoes the inverse hexad. -/
def Obligations.HexadAndHexadInvUndoEachOther : Prop :=
  ∀ (S : Sbox) (w km : Vector Word 6) (kr : Vector Rot 6),
    hexadInv S (hexad S w km kr) km kr = w ∧ hexad S (hexadInv S w km kr) km kr = w

/-- R120: the six lines of the hexad "written out", and R121: those of the inverse hexad. -/
def Obligations.HexadIsItsSixLinesWrittenOut : Prop :=
  ∀ (S : Sbox) (w km : Vector Word 6) (kr : Vector Rot 6),
    (let r := hexad S w km kr
     r[4] = w[4] ^^^ F1 S w[5] km[0] kr[0] ∧ r[3] = w[3] ^^^ F2 S r[4] km[1] kr[1] ∧
     r[2] = w[2] ^^^ F3 S r[3] km[2] kr[2] ∧ r[1] = w[1] ^^^ F4 S r[2] km[3] kr[3] ∧
     r[0] = w[0] ^^^ F5 S r[1] km[4] kr[4] ∧ r[5] = w[5] ^^^ F6 S r[0] km[5] kr[5]) ∧
    (let r := hexadInv S w km kr
     r[5] = w[5] ^^^ F6 S w[0] km[5] kr[5] ∧ r[0] = w[0] ^^^ F5 S w[1] km[4] kr[4] ∧
     r[1] = w[1] ^^^ F4 S w[2] km[3] kr[3] ∧ r[2] = w[2] ^^^ F3 S w[3] km[2] kr[2] ∧
     r[3] = w[3] ^^^ F2 S w[4] km[1] kr[1] ∧ r[4] = w[4] ^^^ F1 S r[5] km[0] kr[0])

/-- HEXAD and HEXADINV complete from every state, with legal rotation words, and answer the six output words; a wrong
length is refused first, then a rotation word above 31; no register changes (R170, R171). -/
def Obligations.HexadCommandsAnswerTheRoundFunctions : Prop :=
  (∀ (w km : Vector Word 6) (kr : Vector Rot 6) (s : State),
    let p := bytes w.toList ++ bytes km.toList ++ bytes (kr.toList.map rotWord)
    exec (.hexad p) s = .next { s with respPort := s.respPort ++
      ([0x00, 0x00, 0x00, 0x18] ++ bytes (hexad Config.sbox w km kr).toList) } ∧
    exec (.hexadInv p) s = .next { s with respPort := s.respPort ++
      ([0x00, 0x00, 0x00, 0x18] ++ bytes (hexadInv Config.sbox w km kr).toList) }) ∧
  ∀ (p : List Byte) (s : State) (status : Byte),
    (p.length ≠ 72 ∧ status = 0x02) ∨
      (p.length = 72 ∧ (∃ j, j < 6 ∧ 31 < (wordAt p (48 + 4 * j)).toNat) ∧ status = 0x05) →
    exec (.hexad p) s = .next { s with respPort := s.respPort ++ [status, 0x00, 0x00, 0x00] } ∧
    exec (.hexadInv p) s = .next { s with respPort := s.respPort ++ [status, 0x00, 0x00, 0x00] }

/-- ENC_BLOCK and DEC_BLOCK complete once a key is installed and answer the transformed block; before that they report
`NOT_KEYED`; with any length but 24 they report `BAD_LENGTH`, key or not. No register changes in any case (R127, R128). -/
def Obligations.BlockCommandsTransformOneBlock : Prop :=
  ∀ s : State,
    (∀ blk : Vector Byte 24, s.keyValid = true →
      exec (.encBlock blk.toList) s = .next { s with respPort := s.respPort ++
        ([0x00, 0x00, 0x00, 0x18] ++ (encBlock Config.sbox s.km s.kr blk).toList) } ∧
      exec (.decBlock blk.toList) s = .next { s with respPort := s.respPort ++
        ([0x00, 0x00, 0x00, 0x18] ++ (decBlock Config.sbox s.km s.kr blk).toList) }) ∧
    (∀ p : List Byte, p.length = 24 → s.keyValid = false →
      exec (.encBlock p) s = .next { s with respPort := s.respPort ++ [0x03, 0x00, 0x00, 0x00] } ∧
      exec (.decBlock p) s = .next { s with respPort := s.respPort ++ [0x03, 0x00, 0x00, 0x00] }) ∧
    ∀ p : List Byte, p.length ≠ 24 →
      exec (.encBlock p) s = .next { s with respPort := s.respPort ++ [0x02, 0x00, 0x00, 0x00] } ∧
      exec (.decBlock p) s = .next { s with respPort := s.respPort ++ [0x02, 0x00, 0x00, 0x00] }

/-- R126, through the commands: whatever round keys are in place, DEC_BLOCK of ENC_BLOCK's answer, and ENC_BLOCK of
DEC_BLOCK's answer, is the block that was sent. -/
def Obligations.EncryptionAndDecryptionUndoEachOther : Prop :=
  ∀ (s : State) (blk : List Byte), s.keyValid = true → blk.length = 24 →
    (∃ c t, c.length = 24 ∧ execAll [.encBlock blk, .decBlock c] s = .next t ∧
      t.respPort = s.respPort ++ ([0x00, 0x00, 0x00, 0x18] ++ c) ++ ([0x00, 0x00, 0x00, 0x18] ++ blk)) ∧
    ∃ c t, c.length = 24 ∧ execAll [.decBlock blk, .encBlock c] s = .next t ∧
      t.respPort = s.respPort ++ ([0x00, 0x00, 0x00, 0x18] ++ c) ++ ([0x00, 0x00, 0x00, 0x18] ++ blk)

/-- RD_KM and RD_KR complete once a key is installed and answer the whole store, entry 0 first, each entry as a
big-endian word; before that, `NOT_KEYED`; with a payload, `BAD_LENGTH`. No register changes (R165, R166). -/
def Obligations.ReadCommandsAnswerTheRoundKeyStore : Prop :=
  ∀ s : State,
    (s.keyValid = true → ∃ km kr : List Byte,
      exec (.rdKm []) s = .next { s with respPort := s.respPort ++ ([0x00, 0x00, 0x01, 0x20] ++ km) } ∧
      exec (.rdKr []) s = .next { s with respPort := s.respPort ++ ([0x00, 0x00, 0x01, 0x20] ++ kr) } ∧
      km.length = 288 ∧ kr.length = 288 ∧
      ∀ i (h : i < 72), wordAt km (4 * i) = s.km[i] ∧ (wordAt kr (4 * i)).toNat = s.kr[i].toNat) ∧
    (s.keyValid = false →
      exec (.rdKm []) s = .next { s with respPort := s.respPort ++ [0x03, 0x00, 0x00, 0x00] } ∧
      exec (.rdKr []) s = .next { s with respPort := s.respPort ++ [0x03, 0x00, 0x00, 0x00] }) ∧
    ∀ p : List Byte, p ≠ [] →
      exec (.rdKm p) s = .next { s with respPort := s.respPort ++ [0x02, 0x00, 0x00, 0x00] } ∧
      exec (.rdKr p) s = .next { s with respPort := s.respPort ++ [0x02, 0x00, 0x00, 0x00] }

/-! ### The CTR mode (R140 to R152, R226) -/

/-- R140: bytes 0 to 15 of the counter block are the nonce, bytes 16 to 23 the counter, most significant byte first; the
keystream block is its encryption. R141: byte `p` of the keystream is byte `p mod 24` of keystream block `p div 24`. -/
def Obligations.CounterBlockIsNonceThenCounter : Prop :=
  ∀ (S : Sbox) (km : Vector Word 72) (kr : Vector Rot 72) (nonce : Vector Byte 16),
    (∀ n, n < 2 ^ 64 →
      ∃ blk : Vector Byte 24, ksBlock S km kr nonce n = encBlock S km kr blk ∧
        (∀ i (h : i < 16), blk[i] = nonce[i]) ∧
        ∀ j (h : j < 8), blk[16 + j].toNat = n / 256 ^ (7 - j) % 256) ∧
    ∀ p, p < 24 * 2 ^ 64 → keystreamByte S km kr nonce p = (ksBlock S km kr nonce (p / 24)).toList.getD (p % 24) 0

/-- CTR_INIT completes from every state, the exhausted one too, for every nonce and key: it installs the key, stores the
nonce, goes to position 0 with an empty buffer and sets both flags; what the buffer then holds is left open. A payload
shorter than a nonce is refused (R145). -/
def Obligations.CtrInitResetsTheStream : Prop :=
  ∀ s : State,
    (∀ (nonce : Vector Byte 16) (key : List Byte), ∃ ks : Vector Byte 24,
      exec (.ctrInit (nonce.toList ++ key)) s = .next { s with
        km := (deriveKeys Config.sbox key).1, kr := (deriveKeys Config.sbox key).2, keyValid := true, nonce := nonce,
        ctr := 0, ks := ks, cur := 24, ctrValid := true, respPort := s.respPort ++ [0x00, 0x00, 0x00, 0x00] }) ∧
    ∀ p : List Byte, p.length < 16 →
      exec (.ctrInit p) s = .next { s with respPort := s.respPort ++ [0x02, 0x00, 0x00, 0x00] }

/-- CTR_SEEK completes, from the exhausted state too, for every operand whose value is below 2^64, of whatever length: it
sets the counter to that value and empties the buffer, whose contents are left open, and changes no key, nonce or flag.
A larger value is refused; so is every operand before CTR_INIT, which is checked first (R148, R207). -/
def Obligations.SeekSetsTheCounter : Prop :=
  ∀ (s : State) (c : List Byte),
    (s.ctrValid = true → beInt c < 2 ^ 64 → ∃ ks : Vector Byte 24,
      exec (.ctrSeek c) s = .next { s with ctr := beInt c, ks := ks, cur := 24,
                                           respPort := s.respPort ++ [0x00, 0x00, 0x00, 0x00] }) ∧
    (s.ctrValid = true → 2 ^ 64 ≤ beInt c →
      exec (.ctrSeek c) s = .next { s with respPort := s.respPort ++ [0x06, 0x00, 0x00, 0x00] }) ∧
    (s.ctrValid = false →
      exec (.ctrSeek c) s = .next { s with respPort := s.respPort ++ [0x04, 0x00, 0x00, 0x00] })

/-- CTR_ENCRYPT and CTR_DECRYPT complete after CTR_INIT whenever the data ends within the keystream: each byte is XORed
with the next buffered byte, and after the buffer with the keystream of the current keys from the next block on; the
position advances by the number of bytes, and no register but `CTR`, `KS`, `CUR` changes (R144, R146, R147, R151). -/
def Obligations.CtrDataCommandsXorWithTheKeystream : Prop :=
  ∀ (s : State) (data : List Byte), s.Inv → s.ctrValid = true → s.position + data.length ≤ 24 * 2 ^ 64 →
    ∃ (out : List Byte) (ks : Vector Byte 24) (ctr cur : Nat),
      let t := { s with ctr := ctr, ks := ks, cur := cur,
                        respPort := s.respPort ++ (0x00 :: bytes24 data.length ++ out) }
      exec (.ctrEncrypt data) s = .next t ∧ exec (.ctrDecrypt data) s = .next t ∧
      out.length = data.length ∧
      (∀ i, i < data.length → out.getD i 0 = data.getD i 0 ^^^
        (if i < 24 - s.cur then s.ks.toList.getD (s.cur + i) 0
         else keystreamByte Config.sbox s.km s.kr s.nonce (s.position + i))) ∧
      t.position = s.position + data.length ∧
      (data = [] → ctr = s.ctr ∧ cur = s.cur ∧ ks = s.ks) ∧
      (data ≠ [] → (s.position + data.length) % 24 = 0 → ctr = (s.position + data.length) / 24 ∧ cur = 24) ∧
      (data ≠ [] → (s.position + data.length) % 24 ≠ 0 →
        ctr = (s.position + data.length) / 24 + 1 ∧ cur = (s.position + data.length) % 24)

/-- R151: while no KEY_INIT has come since the buffered block was made, the output byte `i` is `data[i] ^ Z[P + i]`. -/
def Obligations.OutputIsDataXorKeystreamAtPosition : Prop :=
  ∀ (s : State) (data : List Byte), s.Inv → s.ctrValid = true → s.BufferCurrent Config.sbox →
    s.position + data.length ≤ 24 * 2 ^ 64 →
    ∃ t out, exec (.ctrEncrypt data) s = .next t ∧
      t.respPort = s.respPort ++ (0x00 :: bytes24 data.length ++ out) ∧ out.length = data.length ∧
      (∀ i, i < data.length →
        out.getD i 0 = data.getD i 0 ^^^ keystreamByte Config.sbox s.km s.kr s.nonce (s.position + i)) ∧
      t.position = s.position + data.length ∧ t.BufferCurrent Config.sbox

/-- R208, R143: CTR_ENCRYPT and CTR_DECRYPT are refused as a whole exactly when their data would run past the last
keystream byte: past it `CTR_EXHAUSTED` is answered and nothing else changes, and up to it the command completes with an
`OK` response. Empty data, for which this is a completion too, changes nothing but the response port, in the exhausted
state as well. The counter never decreases and never exceeds 2^64 over either command: it does not wrap. -/
def Obligations.ExhaustionIsRefusedWhole : Prop :=
  ∀ (s : State) (data : List Byte), s.Inv → s.ctrValid = true →
    (24 * 2 ^ 64 < s.position + data.length →
      exec (.ctrEncrypt data) s = .next { s with respPort := s.respPort ++ [0x07, 0x00, 0x00, 0x00] } ∧
      exec (.ctrDecrypt data) s = .next { s with respPort := s.respPort ++ [0x07, 0x00, 0x00, 0x00] }) ∧
    (s.position + data.length ≤ 24 * 2 ^ 64 →
      (∃ t out, exec (.ctrEncrypt data) s = .next t ∧
        t.respPort = s.respPort ++ (0x00 :: bytes24 data.length ++ out)) ∧
      ∃ t out, exec (.ctrDecrypt data) s = .next t ∧
        t.respPort = s.respPort ++ (0x00 :: bytes24 data.length ++ out)) ∧
    (exec (.ctrEncrypt []) s = .next { s with respPort := s.respPort ++ [0x00, 0x00, 0x00, 0x00] } ∧
      exec (.ctrDecrypt []) s = .next { s with respPort := s.respPort ++ [0x00, 0x00, 0x00, 0x00] }) ∧
    (∀ t, exec (.ctrEncrypt data) s = .next t → s.ctr ≤ t.ctr ∧ t.ctr ≤ 2 ^ 64) ∧
    ∀ t, exec (.ctrDecrypt data) s = .next t → s.ctr ≤ t.ctr ∧ t.ctr ≤ 2 ^ 64

/-- R205: before CTR_INIT, whatever their payload, the data commands and CTR_SEEK report `CTR_NOT_INIT`, and a KEY_INIT
does not change that. -/
def Obligations.CtrDataNeedsCtrInit : Prop :=
  ∀ (s : State) (data : List Byte), s.ctrValid = false →
    exec (.ctrEncrypt data) s = .next { s with respPort := s.respPort ++ [0x04, 0x00, 0x00, 0x00] } ∧
    exec (.ctrDecrypt data) s = .next { s with respPort := s.respPort ++ [0x04, 0x00, 0x00, 0x00] } ∧
    exec (.ctrSeek data) s = .next { s with respPort := s.respPort ++ [0x04, 0x00, 0x00, 0x00] } ∧
    ∀ (key : List Byte) (i : Instr), i ∈ [.ctrEncrypt data, .ctrDecrypt data, .ctrSeek data] →
      ∃ t, execAll [.keyInit key, i] s = .next t ∧
        t.respPort = s.respPort ++ [0x00, 0x00, 0x00, 0x00] ++ [0x04, 0x00, 0x00, 0x00] ∧ t.ctrValid = false

/-- R149: cut into consecutive chunks, empty ones allowed and encrypting and decrypting mixed, data that one CTR_ENCRYPT
would take gives the same output bytes, and leaves the same registers (`KS` where it can still be read), as that one
command. -/
def Obligations.ChunksStreamLikeOneCommand : Prop :=
  ∀ (s u : State) (chunks : List (Bool × List Byte)) (out : List Byte), s.ctrValid = true →
    exec (.ctrEncrypt (chunks.flatMap (·.2))) s = .next u →
    u.respPort = s.respPort ++ (0x00 :: bytes24 (chunks.flatMap (·.2)).length ++ out) →
    ∃ (t : State) (outs : List (List Byte)),
      execAll (chunks.map fun c => if c.1 then .ctrEncrypt c.2 else .ctrDecrypt c.2) s = .next t ∧
      outs.map List.length = chunks.map (·.2.length) ∧ outs.flatten = out ∧
      t.respPort = s.respPort ++ outs.flatMap (fun o => 0x00 :: bytes24 o.length ++ o) ∧
      { t with respPort := [], ks := u.ks } = { u with respPort := [] } ∧ (u.cur < 24 → t.ks = u.ks)

/-- R150: after a seek to `c`, encrypting XORs the data with the keystream from byte `24·c` on, wherever the stream was. -/
def Obligations.SeekThenEncryptUsesTheKeystreamAtTheBlock : Prop :=
  ∀ (s : State) (c data : List Byte), s.ctrValid = true → beInt c < 2 ^ 64 →
    24 * beInt c + data.length ≤ 24 * 2 ^ 64 →
    ∃ t out, execAll [.ctrSeek c, .ctrEncrypt data] s = .next t ∧
      t.respPort = s.respPort ++ [0x00, 0x00, 0x00, 0x00] ++ (0x00 :: bytes24 data.length ++ out) ∧
      out.length = data.length ∧
      ∀ i, i < data.length →
        out.getD i 0 = data.getD i 0 ^^^ keystreamByte Config.sbox s.km s.kr s.nonce (24 * beInt c + i)

/-- R152, at a block boundary: decrypting what was encrypted, from the same position, gives the data back. -/
def Obligations.DecryptFromTheSamePositionGivesTheDataBack : Prop :=
  ∀ (s : State) (c data : List Byte), s.ctrValid = true → beInt c < 2 ^ 64 →
    24 * beInt c + data.length ≤ 24 * 2 ^ 64 →
    ∃ t out, execAll [.ctrSeek c, .ctrEncrypt data, .ctrSeek c, .ctrDecrypt out] s = .next t ∧
      t.respPort = s.respPort ++ [0x00, 0x00, 0x00, 0x00] ++ (0x00 :: bytes24 data.length ++ out) ++
        [0x00, 0x00, 0x00, 0x00] ++ (0x00 :: bytes24 data.length ++ data)

/-- R226: after KEY_INIT under a live CTR state the next data command uses up the buffered bytes of the old key first, and
only then the new key's keystream, at the old position: the output is a splice of two keystreams. -/
def Obligations.KeyInitSplicesTwoKeystreams : Prop :=
  ∀ (s : State) (key data : List Byte), s.Inv → s.ctrValid = true → s.BufferCurrent Config.sbox →
    s.position + data.length ≤ 24 * 2 ^ 64 →
    ∃ t out, execAll [.keyInit key, .ctrEncrypt data] s = .next t ∧
      t.respPort = s.respPort ++ [0x00, 0x00, 0x00, 0x00] ++ (0x00 :: bytes24 data.length ++ out) ∧
      out.length = data.length ∧
      ∀ i, i < data.length → out.getD i 0 = data.getD i 0 ^^^
        (if i < 24 - s.cur then keystreamByte Config.sbox s.km s.kr s.nonce (s.position + i)
         else keystreamByte Config.sbox (deriveKeys Config.sbox key).1 (deriveKeys Config.sbox key).2 s.nonce
           (s.position + i))

/-! ### The block transforms written out (R123, R124, R125) -/

/-- R123, R124, R125: with round `r` done by the six key pairs `km[6r + j]`, `kr[6r + j]`, EncBlock parses the block as six
big-endian words, does hexads for rounds 0 to 5 and inverse hexads for rounds 6 to 11, and serializes the words back;
DecBlock does hexads for rounds 11 down to 6 and inverse hexads for rounds 5 down to 0. Nothing else is done. Through
`encBlock` and `decBlock` this says what ENC_BLOCK, DEC_BLOCK and the keystream compute in the statements above. -/
def Obligations.BlockTransformsAreTheirTwelveRounds : Prop :=
  ∀ (S : Sbox) (km : Vector Word 72) (kr : Vector Rot 72) (blk : Vector Byte 24),
    let w := wordsAt 6 blk.toList 0
    let H := fun (r : Fin 12) (w : Vector Word 6) => hexad S w
      (Vector.ofFn fun j : Fin 6 => km[6 * r.val + j.val]) (Vector.ofFn fun j : Fin 6 => kr[6 * r.val + j.val])
    let I := fun (r : Fin 12) (w : Vector Word 6) => hexadInv S w
      (Vector.ofFn fun j : Fin 6 => km[6 * r.val + j.val]) (Vector.ofFn fun j : Fin 6 => kr[6 * r.val + j.val])
    (encBlock S km kr blk).toList =
      bytes (I 11 (I 10 (I 9 (I 8 (I 7 (I 6 (H 5 (H 4 (H 3 (H 2 (H 1 (H 0 w)))))))))))).toList ∧
    (decBlock S km kr blk).toList =
      bytes (I 0 (I 1 (I 2 (I 3 (I 4 (I 5 (H 6 (H 7 (H 8 (H 9 (H 10 (H 11 w)))))))))))).toList
end

