-- ==== Sys2Proof/Laws/Bytes.lean ====
section
/-! SUPPORT. Byte order and frames: what reading gives back after writing, and the lengths of what is written. -/

namespace Sys2Proof.Machine

open Sys2Proof

/-- Reading the four bytes of a word gives the word. -/
@[simp] theorem be32_bytes32 (w : Word) : be32 (byte0 w) (byte1 w) (byte2 w) (byte3 w) = w := by
  apply BitVec.eq_of_getLsbD_eq
  intro i hi
  simp only [be32, byte0, byte1, byte2, byte3, BitVec.getLsbD_append, BitVec.getLsbD_extractLsb']
  interval_cases i <;> simp

/-- A word read from four bytes has those bytes. -/
theorem be32_toNat (b0 b1 b2 b3 : Byte) :
    (be32 b0 b1 b2 b3).toNat = b0.toNat * 2 ^ 24 + b1.toNat * 2 ^ 16 + b2.toNat * 2 ^ 8 + b3.toNat := by
  have h0 := b0.isLt
  have h1 := b1.isLt
  have h2 := b2.isLt
  have h3 := b3.isLt
  have hor : ∀ x y : Nat, y < 2 ^ 8 → (x <<< 8 ||| y) = x * 2 ^ 8 + y := by
    intro x y hy
    rw [← Nat.shiftLeft_add_eq_or_of_lt hy, Nat.shiftLeft_eq]
  simp only [be32, BitVec.toNat_append]
  rw [hor _ _ h1, hor _ _ h2, hor _ _ h3]
  omega

@[simp] theorem bytes32_length (w : Word) : (bytes32 w).length = 4 := rfl

@[simp] theorem bytes_nil : bytes [] = [] := rfl

@[simp] theorem bytes_cons (w : Word) (ws : List Word) : bytes (w :: ws) = bytes32 w ++ bytes ws := rfl

@[simp] theorem bytes_append (us ws : List Word) : bytes (us ++ ws) = bytes us ++ bytes ws := by
  simp [bytes]

/-- A word is four bytes (R41). -/
@[simp] theorem bytes_length (ws : List Word) : (bytes ws).length = 4 * ws.length := by
  induction ws with
  | nil => rfl
  | cons w ws ih => simp [ih]; omega

@[simp] theorem bytes24_length (n : Nat) : (bytes24 n).length = 3 := rfl

/-- A 24-bit length field reads back as the length written (R61, R62). -/
theorem beInt_bytes24 {n : Nat} (h : n < 2 ^ 24) : beInt (bytes24 n) = n := by
  simp only [beInt, bytes24, List.foldl_cons, List.foldl_nil, BitVec.toNat_ofNat]
  omega

/-- A three-byte length field is below 2^24. -/
theorem beInt_three_lt (a b c : Byte) : beInt [a, b, c] < 2 ^ 24 := by
  have := a.isLt
  have := b.isLt
  have := c.isLt
  simp only [beInt, List.foldl_cons, List.foldl_nil]
  omega

/-- A three-byte length field written again is the field that was read. -/
theorem bytes24_beInt (a b c : Byte) : bytes24 (beInt [a, b, c]) = [a, b, c] := by
  have ha := a.isLt
  have hb := b.isLt
  have hc := c.isLt
  simp only [beInt, bytes24, List.foldl_cons, List.foldl_nil, List.cons.injEq, and_true]
  refine ⟨?_, ?_, ?_⟩ <;> apply BitVec.eq_of_toNat_eq <;> simp only [BitVec.toNat_ofNat] <;> omega

/-- A store made from a sequence of its own length holds exactly that sequence. -/
@[simp] theorem storeOf_toList {α : Type} (fill : α) (l : List α) : (storeOf l.length fill l).toList = l := by
  apply List.ext_getElem
  · simp
  · intro i h₁ h₂
    simp [storeOf]

/-- The same, with the length given as a number. -/
theorem toList_storeOf {α : Type} {n : Nat} (fill : α) (l : List α) (h : l.length = n) :
    (storeOf n fill l).toList = l := by
  subst h
  exact storeOf_toList fill l

/-- A store made from its own entries is itself. -/
@[simp] theorem storeOf_ofToList {α : Type} {n : Nat} (fill : α) (v : Vector α n) : storeOf n fill v.toList = v := by
  apply Vector.toList_inj.mp
  exact toList_storeOf fill _ (by simp)

/-- A store made from a sequence that goes on after it does not read what follows. -/
theorem storeOf_append {α : Type} {n : Nat} (fill : α) (v : Vector α n) (rest : List α) :
    storeOf n fill (v.toList ++ rest) = v := by
  apply Vector.ext
  intro i h
  simp [storeOf, List.getElem?_append]

/-- The word at offset `4 * j` of a written word sequence is its word `j` (R41). -/
theorem wordAt_bytes (ws : List Word) (before after : List Byte) (j : Nat) (h : j < ws.length) :
    wordAt (before ++ bytes ws ++ after) (before.length + 4 * j) = ws[j] := by
  induction ws generalizing before j with
  | nil => simp at h
  | cons w ws ih =>
    cases j with
    | zero => simp [wordAt, bytes32]
    | succ j =>
      have := ih (before ++ bytes32 w) j (by simpa using h)
      simp only [List.length_append, bytes32_length, List.append_assoc] at this
      rw [bytes_cons, List.getElem_cons_succ, ← this]
      congr 1
      · simp
      · omega

/-- Words written and read back are the words (R41). -/
theorem wordsAt_bytes {n : Nat} (ws : Vector Word n) (before after : List Byte) :
    wordsAt n (before ++ bytes ws.toList ++ after) before.length = ws := by
  apply Vector.ext
  intro j h
  simp only [wordsAt, Vector.getElem_ofFn]
  rw [wordAt_bytes _ _ _ _ (by simpa using h)]
  simp

/-- The first complete frame of a stream that begins with a frame is that frame (R60). -/
theorem takeFrame_frameBytes (opc : Byte) (payload rest : List Byte) (h : payload.length < 2 ^ 24) :
    takeFrame (frameBytes opc payload ++ rest) = some (⟨opc, payload⟩, rest) := by
  have := beInt_bytes24 h
  simp only [bytes24] at this
  simp [frameBytes, bytes24, takeFrame, this]

/-- Taking a frame takes exactly its bytes (R60). -/
theorem takeFrame_eq_some {stream rest : List Byte} {f : Frame} (h : takeFrame stream = some (f, rest)) :
    stream = frameBytes f.opc f.payload ++ rest ∧ f.payload.length < 2 ^ 24 := by
  unfold takeFrame at h
  split at h
  next opc a b c tail =>
    simp only [Option.ite_none_left_eq_some, Option.some.injEq, Prod.mk.injEq, not_lt] at h
    obtain ⟨hle, rfl, rfl⟩ := h
    have hlen : (tail.take (beInt [a, b, c])).length = beInt [a, b, c] := by simp [hle]
    refine ⟨?_, by rw [hlen]; exact beInt_three_lt a b c⟩
    simp only [frameBytes]
    rw [hlen, bytes24_beInt]
    simp
  next => simp at h

end Sys2Proof.Machine
end

