-- ==== Sys2Proof/Laws/Cipher.lean ====
section
/-! SUPPORT. The datapath functions: a mixing step undone by itself, folds undone back to front, and the lengths of what
the key schedule makes. -/

namespace Sys2Proof.Machine

open Sys2Proof

/-- A mixing step writes its target word only. -/
theorem mixStep_getElem_of_ne {n : Nat} (S : Sbox) (f : Fin 6) (tgt src : Fin n) (km : Word) (kr : Rot)
    (w : Vector Word n) (i : Nat) (hi : i < n) (h : tgt.val ≠ i) : (mixStep S f tgt src km kr w)[i] = w[i] := by
  simp [mixStep, h]

/-- A mixing step that reads another word than it writes is undone by repeating it (R81, R109, R122). -/
theorem mixStep_mixStep {n : Nat} (S : Sbox) (f : Fin 6) (tgt src : Fin n) (km : Word) (kr : Rot) (w : Vector Word n)
    (h : tgt ≠ src) : mixStep S f tgt src km kr (mixStep S f tgt src km kr w) = w := by
  have hv : tgt.val ≠ src.val := fun e => h (Fin.ext e)
  apply Vector.ext
  intro i hi
  by_cases hti : tgt.val = i
  · subst hti
    simp [mixStep, hv]
  · simp [mixStep, hti]

/-- A sequence of self-undoing steps is undone by the same steps back to front. -/
theorem foldl_reverse_foldl {α β : Type} (f : β → α → β) (h : ∀ b a, f (f b a) a = b) (l : List α) (b : β) :
    l.reverse.foldl f (l.foldl f b) = b := by
  induction l generalizing b with
  | nil => rfl
  | cons a l ih => simp [ih, h]

/-- Two step functions that undo each other, one run forwards and the other back to front. -/
theorem foldl_reverse_foldl_of_inverse {α β : Type} (f g : β → α → β) (h : ∀ b a, g (f b a) a = b) (l : List α) (b : β) :
    l.reverse.foldl g (l.foldl f b) = b := by
  induction l generalizing b with
  | nil => rfl
  | cons a l ih => simp [ih, h]

/-- A dodecad step is undone by repeating it. -/
theorem dodecadStep_dodecadStep (S : Sbox) (tm : Vector Word 12) (tr : Vector Rot 12) (k : Vector Word 12) (i : Fin 12) :
    dodecadStep S tm tr (dodecadStep S tm tr k i) i = k :=
  mixStep_mixStep _ _ _ _ _ _ _ (by revert i; decide)

/-- A hexad step is undone by repeating it. -/
theorem hexadStep_hexadStep (S : Sbox) (km : Vector Word 6) (kr : Vector Rot 6) (w : Vector Word 6) (j : Fin 6) :
    hexadStep S km kr (hexadStep S km kr w j) j = w :=
  mixStep_mixStep _ _ _ _ _ _ _ (by revert j; decide)

/-- The words of a block, written, are the block (R41). -/
theorem wordsBlock_blockWords (blk : Vector Byte 24) : wordsBlock (blockWords blk) = blk := by
  apply Vector.ext
  intro i h
  have hb : ∀ b0 b1 b2 b3 : Byte, bytes32 (be32 b0 b1 b2 b3) = [b0, b1, b2, b3] := by
    intro b0 b1 b2 b3
    simp only [bytes32, List.cons.injEq, and_true]
    refine ⟨?_, ?_, ?_, ?_⟩ <;> apply BitVec.eq_of_toNat_eq <;>
      simp only [byte0, byte1, byte2, byte3, BitVec.extractLsb'_toNat, be32_toNat, Nat.shiftRight_eq_div_pow] <;>
      have := b0.isLt <;> have := b1.isLt <;> have := b2.isLt <;> have := b3.isLt <;> omega
  have hw : bytes (blockWords blk).toList = blk.toList := by
    apply List.ext_getElem
    · simp
    · intro j h₁ h₂
      simp only [blockWords, wordsAt, Vector.toList_ofFn, List.ofFn_succ, List.ofFn_zero, bytes_cons, bytes_nil, wordAt, hb]
      have hj : j < 24 := by simpa using h₂
      interval_cases j <;> simp
  simp [wordsBlock, hw]

/-- The block of six words is their bytes in order (R41). -/
@[simp] theorem wordsBlock_toList (w : Vector Word 6) : (wordsBlock w).toList = bytes w.toList :=
  toList_storeOf 0 _ (by simp)

/-- The bytes of six words, read as a block, are the words (R41). -/
theorem blockWords_wordsBlock (w : Vector Word 6) : blockWords (wordsBlock w) = w := by
  simpa [blockWords] using wordsAt_bytes w [] []

/-- Round `r` takes entry `6r + j` as its key of step `j` (R123). -/
@[simp] theorem roundSlice_getElem {α : Type} (x : Vector α 72) (r : Fin 12) (j : Nat) (hj : j < 6) :
    (roundSlice x r)[j] = x[6 * r.val + j] := by simp [roundSlice]

/-- A dodecad takes schedule entry `o + j` as its pair of step `j` (R105). -/
@[simp] theorem slice12_getElem {α : Type} (fill : α) (t : List α) (o j : Nat) (hj : j < 12) :
    (slice12 fill t o)[j] = t.getD (o + j) fill := by simp [slice12]

@[simp] theorem genSched_fst_length (r d : Nat) : (genSched r d).1.length = 12 * r * d := by simp [genSched]

@[simp] theorem genSched_snd_length (r d : Nat) : (genSched r d).2.length = 12 * r * d := by simp [genSched]

@[simp] theorem extractKm_length (κ : Vector Word 12) : (extractKm κ).length = 6 := rfl

@[simp] theorem extractKr_length (κ : Vector Word 12) : (extractKr κ).length = 6 := rfl

/-- Extraction gives six masking words a round (R105). -/
theorem genRkFrom_fst_length (S : Sbox) (tm : List Word) (tr : List Rot) (d n ρ : Nat) (κ : Vector Word 12) :
    (genRkFrom S tm tr d n ρ κ).1.length = 6 * n := by
  induction n generalizing ρ κ with
  | zero => rfl
  | succ n ih => simp only [genRkFrom, List.length_append, extractKm_length, ih]; omega

/-- Extraction gives six rotation amounts a round (R105). -/
theorem genRkFrom_snd_length (S : Sbox) (tm : List Word) (tr : List Rot) (d n ρ : Nat) (κ : Vector Word 12) :
    (genRkFrom S tm tr d n ρ κ).2.length = 6 * n := by
  induction n generalizing ρ κ with
  | zero => rfl
  | succ n ih => simp only [genRkFrom, List.length_append, extractKr_length, ih]; omega

@[simp] theorem genRoundKeys_fst_length (S : Sbox) (key : List Byte) (r d : Nat) :
    (genRoundKeys S key r d).1.length = 6 * r := genRkFrom_fst_length ..

@[simp] theorem genRoundKeys_snd_length (S : Sbox) (key : List Byte) (r d : Nat) :
    (genRoundKeys S key r d).2.length = 6 * r := genRkFrom_snd_length ..

/-- The masking store of a derivation is the whole sequence of masking words (R110). -/
theorem deriveKeys_fst_toList (S : Sbox) (key : List Byte) :
    (deriveKeys S key).1.toList = (genRoundKeys S key 12 4).1 := by
  unfold deriveKeys
  exact toList_storeOf 0 _ (by simp [Config.rounds])

/-- The rotation store of a derivation is the whole sequence of rotation amounts (R110). -/
theorem deriveKeys_snd_toList (S : Sbox) (key : List Byte) :
    (deriveKeys S key).2.toList = (genRoundKeys S key 12 4).2 := by
  unfold deriveKeys
  exact toList_storeOf 0 _ (by simp [Config.rounds])

end Sys2Proof.Machine
end

