-- ==== Sys2Proof/Laws/State.lean ====
section
/-! SUPPORT. What each update of the state does to each field: one lemma a field and update, by unfolding once. No
later proof unfolds a record update. -/

namespace Sys2Proof.Machine

open Sys2Proof

variable (s : State)

/-! ### Sending on the response port -/

@[simp] theorem State.send_km (frame : List Byte) : (s.send frame).km = s.km := rfl
@[simp] theorem State.send_kr (frame : List Byte) : (s.send frame).kr = s.kr := rfl
@[simp] theorem State.send_keyValid (frame : List Byte) : (s.send frame).keyValid = s.keyValid := rfl
@[simp] theorem State.send_nonce (frame : List Byte) : (s.send frame).nonce = s.nonce := rfl
@[simp] theorem State.send_ctr (frame : List Byte) : (s.send frame).ctr = s.ctr := rfl
@[simp] theorem State.send_ks (frame : List Byte) : (s.send frame).ks = s.ks := rfl
@[simp] theorem State.send_cur (frame : List Byte) : (s.send frame).cur = s.cur := rfl
@[simp] theorem State.send_ctrValid (frame : List Byte) : (s.send frame).ctrValid = s.ctrValid := rfl
@[simp] theorem State.send_cmdPort (frame : List Byte) : (s.send frame).cmdPort = s.cmdPort := rfl
@[simp] theorem State.send_respPort (frame : List Byte) : (s.send frame).respPort = s.respPort ++ frame := rfl
@[simp] theorem State.send_resetLine (frame : List Byte) : (s.send frame).resetLine = s.resetLine := rfl

/-! ### Answering `OK` -/

@[simp] theorem State.respond_km (p : List Byte) : (s.respond p).km = s.km := rfl
@[simp] theorem State.respond_kr (p : List Byte) : (s.respond p).kr = s.kr := rfl
@[simp] theorem State.respond_keyValid (p : List Byte) : (s.respond p).keyValid = s.keyValid := rfl
@[simp] theorem State.respond_nonce (p : List Byte) : (s.respond p).nonce = s.nonce := rfl
@[simp] theorem State.respond_ctr (p : List Byte) : (s.respond p).ctr = s.ctr := rfl
@[simp] theorem State.respond_ks (p : List Byte) : (s.respond p).ks = s.ks := rfl
@[simp] theorem State.respond_cur (p : List Byte) : (s.respond p).cur = s.cur := rfl
@[simp] theorem State.respond_ctrValid (p : List Byte) : (s.respond p).ctrValid = s.ctrValid := rfl
@[simp] theorem State.respond_cmdPort (p : List Byte) : (s.respond p).cmdPort = s.cmdPort := rfl
@[simp] theorem State.respond_respPort (p : List Byte) : (s.respond p).respPort = s.respPort ++ responseFrame statusOk p := rfl
@[simp] theorem State.respond_resetLine (p : List Byte) : (s.respond p).resetLine = s.resetLine := rfl

/-! ### Taking a fault -/

@[simp] theorem State.raiseFault_km (f : EngineFault) : (s.raiseFault f).km = s.km := rfl
@[simp] theorem State.raiseFault_kr (f : EngineFault) : (s.raiseFault f).kr = s.kr := rfl
@[simp] theorem State.raiseFault_keyValid (f : EngineFault) : (s.raiseFault f).keyValid = s.keyValid := rfl
@[simp] theorem State.raiseFault_nonce (f : EngineFault) : (s.raiseFault f).nonce = s.nonce := rfl
@[simp] theorem State.raiseFault_ctr (f : EngineFault) : (s.raiseFault f).ctr = s.ctr := rfl
@[simp] theorem State.raiseFault_ks (f : EngineFault) : (s.raiseFault f).ks = s.ks := rfl
@[simp] theorem State.raiseFault_cur (f : EngineFault) : (s.raiseFault f).cur = s.cur := rfl
@[simp] theorem State.raiseFault_ctrValid (f : EngineFault) : (s.raiseFault f).ctrValid = s.ctrValid := rfl
@[simp] theorem State.raiseFault_cmdPort (f : EngineFault) : (s.raiseFault f).cmdPort = s.cmdPort := rfl
@[simp] theorem State.raiseFault_respPort (f : EngineFault) : (s.raiseFault f).respPort = s.respPort ++ responseFrame f.status [] := rfl
@[simp] theorem State.raiseFault_resetLine (f : EngineFault) : (s.raiseFault f).resetLine = s.resetLine := rfl

/-! ### Setting `KEY_VALID` -/

@[simp] theorem State.setKeyValid_km : (s.setKeyValid).km = s.km := rfl
@[simp] theorem State.setKeyValid_kr : (s.setKeyValid).kr = s.kr := rfl
@[simp] theorem State.setKeyValid_keyValid : (s.setKeyValid).keyValid = true := rfl
@[simp] theorem State.setKeyValid_nonce : (s.setKeyValid).nonce = s.nonce := rfl
@[simp] theorem State.setKeyValid_ctr : (s.setKeyValid).ctr = s.ctr := rfl
@[simp] theorem State.setKeyValid_ks : (s.setKeyValid).ks = s.ks := rfl
@[simp] theorem State.setKeyValid_cur : (s.setKeyValid).cur = s.cur := rfl
@[simp] theorem State.setKeyValid_ctrValid : (s.setKeyValid).ctrValid = s.ctrValid := rfl
@[simp] theorem State.setKeyValid_cmdPort : (s.setKeyValid).cmdPort = s.cmdPort := rfl
@[simp] theorem State.setKeyValid_respPort : (s.setKeyValid).respPort = s.respPort := rfl
@[simp] theorem State.setKeyValid_resetLine : (s.setKeyValid).resetLine = s.resetLine := rfl

/-! ### Setting `CTR_VALID` -/

@[simp] theorem State.setCtrValid_km : (s.setCtrValid).km = s.km := rfl
@[simp] theorem State.setCtrValid_kr : (s.setCtrValid).kr = s.kr := rfl
@[simp] theorem State.setCtrValid_keyValid : (s.setCtrValid).keyValid = s.keyValid := rfl
@[simp] theorem State.setCtrValid_nonce : (s.setCtrValid).nonce = s.nonce := rfl
@[simp] theorem State.setCtrValid_ctr : (s.setCtrValid).ctr = s.ctr := rfl
@[simp] theorem State.setCtrValid_ks : (s.setCtrValid).ks = s.ks := rfl
@[simp] theorem State.setCtrValid_cur : (s.setCtrValid).cur = s.cur := rfl
@[simp] theorem State.setCtrValid_ctrValid : (s.setCtrValid).ctrValid = true := rfl
@[simp] theorem State.setCtrValid_cmdPort : (s.setCtrValid).cmdPort = s.cmdPort := rfl
@[simp] theorem State.setCtrValid_respPort : (s.setCtrValid).respPort = s.respPort := rfl
@[simp] theorem State.setCtrValid_resetLine : (s.setCtrValid).resetLine = s.resetLine := rfl

/-! ### Writing the round-key store -/

@[simp] theorem State.setRoundKeys_km (rk : Vector Word 72 × Vector Rot 72) : (s.setRoundKeys rk).km = rk.1 := rfl
@[simp] theorem State.setRoundKeys_kr (rk : Vector Word 72 × Vector Rot 72) : (s.setRoundKeys rk).kr = rk.2 := rfl
@[simp] theorem State.setRoundKeys_keyValid (rk : Vector Word 72 × Vector Rot 72) : (s.setRoundKeys rk).keyValid = s.keyValid := rfl
@[simp] theorem State.setRoundKeys_nonce (rk : Vector Word 72 × Vector Rot 72) : (s.setRoundKeys rk).nonce = s.nonce := rfl
@[simp] theorem State.setRoundKeys_ctr (rk : Vector Word 72 × Vector Rot 72) : (s.setRoundKeys rk).ctr = s.ctr := rfl
@[simp] theorem State.setRoundKeys_ks (rk : Vector Word 72 × Vector Rot 72) : (s.setRoundKeys rk).ks = s.ks := rfl
@[simp] theorem State.setRoundKeys_cur (rk : Vector Word 72 × Vector Rot 72) : (s.setRoundKeys rk).cur = s.cur := rfl
@[simp] theorem State.setRoundKeys_ctrValid (rk : Vector Word 72 × Vector Rot 72) : (s.setRoundKeys rk).ctrValid = s.ctrValid := rfl
@[simp] theorem State.setRoundKeys_cmdPort (rk : Vector Word 72 × Vector Rot 72) : (s.setRoundKeys rk).cmdPort = s.cmdPort := rfl
@[simp] theorem State.setRoundKeys_respPort (rk : Vector Word 72 × Vector Rot 72) : (s.setRoundKeys rk).respPort = s.respPort := rfl
@[simp] theorem State.setRoundKeys_resetLine (rk : Vector Word 72 × Vector Rot 72) : (s.setRoundKeys rk).resetLine = s.resetLine := rfl

/-! ### Installing a key -/

@[simp] theorem State.installKey_km (S : Sbox) (key : List Byte) : (s.installKey S key).km = (deriveKeys S key).1 := by
  simp [State.installKey]
@[simp] theorem State.installKey_kr (S : Sbox) (key : List Byte) : (s.installKey S key).kr = (deriveKeys S key).2 := by
  simp [State.installKey]
@[simp] theorem State.installKey_keyValid (S : Sbox) (key : List Byte) : (s.installKey S key).keyValid = true := by
  simp [State.installKey]
@[simp] theorem State.installKey_nonce (S : Sbox) (key : List Byte) : (s.installKey S key).nonce = s.nonce := by
  simp [State.installKey]
@[simp] theorem State.installKey_ctr (S : Sbox) (key : List Byte) : (s.installKey S key).ctr = s.ctr := by
  simp [State.installKey]
@[simp] theorem State.installKey_ks (S : Sbox) (key : List Byte) : (s.installKey S key).ks = s.ks := by
  simp [State.installKey]
@[simp] theorem State.installKey_cur (S : Sbox) (key : List Byte) : (s.installKey S key).cur = s.cur := by
  simp [State.installKey]
@[simp] theorem State.installKey_ctrValid (S : Sbox) (key : List Byte) : (s.installKey S key).ctrValid = s.ctrValid := by
  simp [State.installKey]
@[simp] theorem State.installKey_cmdPort (S : Sbox) (key : List Byte) : (s.installKey S key).cmdPort = s.cmdPort := by
  simp [State.installKey]
@[simp] theorem State.installKey_respPort (S : Sbox) (key : List Byte) : (s.installKey S key).respPort = s.respPort := by
  simp [State.installKey]
@[simp] theorem State.installKey_resetLine (S : Sbox) (key : List Byte) : (s.installKey S key).resetLine = s.resetLine := by
  simp [State.installKey]

/-! ### Moving the position to a block -/

@[simp] theorem State.moveTo_km (n : Nat) : (s.moveTo n).km = s.km := rfl
@[simp] theorem State.moveTo_kr (n : Nat) : (s.moveTo n).kr = s.kr := rfl
@[simp] theorem State.moveTo_keyValid (n : Nat) : (s.moveTo n).keyValid = s.keyValid := rfl
@[simp] theorem State.moveTo_nonce (n : Nat) : (s.moveTo n).nonce = s.nonce := rfl
@[simp] theorem State.moveTo_ctr (n : Nat) : (s.moveTo n).ctr = n := rfl
@[simp] theorem State.moveTo_ks (n : Nat) : (s.moveTo n).ks = s.ks := rfl
@[simp] theorem State.moveTo_cur (n : Nat) : (s.moveTo n).cur = 24 := rfl
@[simp] theorem State.moveTo_ctrValid (n : Nat) : (s.moveTo n).ctrValid = s.ctrValid := rfl
@[simp] theorem State.moveTo_cmdPort (n : Nat) : (s.moveTo n).cmdPort = s.cmdPort := rfl
@[simp] theorem State.moveTo_respPort (n : Nat) : (s.moveTo n).respPort = s.respPort := rfl
@[simp] theorem State.moveTo_resetLine (n : Nat) : (s.moveTo n).resetLine = s.resetLine := rfl

/-! ### A refill -/

@[simp] theorem State.refill_km (S : Sbox) : (s.refill S).km = s.km := rfl
@[simp] theorem State.refill_kr (S : Sbox) : (s.refill S).kr = s.kr := rfl
@[simp] theorem State.refill_keyValid (S : Sbox) : (s.refill S).keyValid = s.keyValid := rfl
@[simp] theorem State.refill_nonce (S : Sbox) : (s.refill S).nonce = s.nonce := rfl
@[simp] theorem State.refill_ctr (S : Sbox) : (s.refill S).ctr = s.ctr + 1 := rfl
@[simp] theorem State.refill_ks (S : Sbox) : (s.refill S).ks = ksBlock S s.km s.kr s.nonce s.ctr := rfl
@[simp] theorem State.refill_cur (S : Sbox) : (s.refill S).cur = 0 := rfl
@[simp] theorem State.refill_ctrValid (S : Sbox) : (s.refill S).ctrValid = s.ctrValid := rfl
@[simp] theorem State.refill_cmdPort (S : Sbox) : (s.refill S).cmdPort = s.cmdPort := rfl
@[simp] theorem State.refill_respPort (S : Sbox) : (s.refill S).respPort = s.respPort := rfl
@[simp] theorem State.refill_resetLine (S : Sbox) : (s.refill S).resetLine = s.resetLine := rfl

/-! ### Consuming a keystream byte -/

@[simp] theorem State.advance_km : (s.advance).km = s.km := rfl
@[simp] theorem State.advance_kr : (s.advance).kr = s.kr := rfl
@[simp] theorem State.advance_keyValid : (s.advance).keyValid = s.keyValid := rfl
@[simp] theorem State.advance_nonce : (s.advance).nonce = s.nonce := rfl
@[simp] theorem State.advance_ctr : (s.advance).ctr = s.ctr := rfl
@[simp] theorem State.advance_ks : (s.advance).ks = s.ks := rfl
@[simp] theorem State.advance_cur : (s.advance).cur = s.cur + 1 := rfl
@[simp] theorem State.advance_ctrValid : (s.advance).ctrValid = s.ctrValid := rfl
@[simp] theorem State.advance_cmdPort : (s.advance).cmdPort = s.cmdPort := rfl
@[simp] theorem State.advance_respPort : (s.advance).respPort = s.respPort := rfl
@[simp] theorem State.advance_resetLine : (s.advance).resetLine = s.resetLine := rfl

/-! ### Storing the nonce -/

@[simp] theorem State.setNonce_km (n : Vector Byte 16) : (s.setNonce n).km = s.km := rfl
@[simp] theorem State.setNonce_kr (n : Vector Byte 16) : (s.setNonce n).kr = s.kr := rfl
@[simp] theorem State.setNonce_keyValid (n : Vector Byte 16) : (s.setNonce n).keyValid = s.keyValid := rfl
@[simp] theorem State.setNonce_nonce (n : Vector Byte 16) : (s.setNonce n).nonce = n := rfl
@[simp] theorem State.setNonce_ctr (n : Vector Byte 16) : (s.setNonce n).ctr = s.ctr := rfl
@[simp] theorem State.setNonce_ks (n : Vector Byte 16) : (s.setNonce n).ks = s.ks := rfl
@[simp] theorem State.setNonce_cur (n : Vector Byte 16) : (s.setNonce n).cur = s.cur := rfl
@[simp] theorem State.setNonce_ctrValid (n : Vector Byte 16) : (s.setNonce n).ctrValid = s.ctrValid := rfl
@[simp] theorem State.setNonce_cmdPort (n : Vector Byte 16) : (s.setNonce n).cmdPort = s.cmdPort := rfl
@[simp] theorem State.setNonce_respPort (n : Vector Byte 16) : (s.setNonce n).respPort = s.respPort := rfl
@[simp] theorem State.setNonce_resetLine (n : Vector Byte 16) : (s.setNonce n).resetLine = s.resetLine := rfl

/-! ### Taking a frame from the command port -/

@[simp] theorem State.setCmdPort_km (rest : List Byte) : (s.setCmdPort rest).km = s.km := rfl
@[simp] theorem State.setCmdPort_kr (rest : List Byte) : (s.setCmdPort rest).kr = s.kr := rfl
@[simp] theorem State.setCmdPort_keyValid (rest : List Byte) : (s.setCmdPort rest).keyValid = s.keyValid := rfl
@[simp] theorem State.setCmdPort_nonce (rest : List Byte) : (s.setCmdPort rest).nonce = s.nonce := rfl
@[simp] theorem State.setCmdPort_ctr (rest : List Byte) : (s.setCmdPort rest).ctr = s.ctr := rfl
@[simp] theorem State.setCmdPort_ks (rest : List Byte) : (s.setCmdPort rest).ks = s.ks := rfl
@[simp] theorem State.setCmdPort_cur (rest : List Byte) : (s.setCmdPort rest).cur = s.cur := rfl
@[simp] theorem State.setCmdPort_ctrValid (rest : List Byte) : (s.setCmdPort rest).ctrValid = s.ctrValid := rfl
@[simp] theorem State.setCmdPort_cmdPort (rest : List Byte) : (s.setCmdPort rest).cmdPort = rest := rfl
@[simp] theorem State.setCmdPort_respPort (rest : List Byte) : (s.setCmdPort rest).respPort = s.respPort := rfl
@[simp] theorem State.setCmdPort_resetLine (rest : List Byte) : (s.setCmdPort rest).resetLine = s.resetLine := rfl

/-! ### Reset -/

@[simp] theorem State.applyReset_km : (s.applyReset).km = Vector.replicate 72 0 := rfl
@[simp] theorem State.applyReset_kr : (s.applyReset).kr = Vector.replicate 72 0 := rfl
@[simp] theorem State.applyReset_keyValid : (s.applyReset).keyValid = false := rfl
@[simp] theorem State.applyReset_nonce : (s.applyReset).nonce = Vector.replicate 16 0 := rfl
@[simp] theorem State.applyReset_ctr : (s.applyReset).ctr = 0 := rfl
@[simp] theorem State.applyReset_ks : (s.applyReset).ks = Vector.replicate 24 0 := rfl
@[simp] theorem State.applyReset_cur : (s.applyReset).cur = 0 := rfl
@[simp] theorem State.applyReset_ctrValid : (s.applyReset).ctrValid = false := rfl
@[simp] theorem State.applyReset_cmdPort : (s.applyReset).cmdPort = [] := rfl
@[simp] theorem State.applyReset_respPort : (s.applyReset).respPort = s.respPort := rfl
@[simp] theorem State.applyReset_resetLine : (s.applyReset).resetLine = false := rfl

/-! ### Placing a table word -/

@[simp] theorem State.loadWord_km (nbits w : Nat) : (s.loadWord nbits w).km = s.km := rfl
@[simp] theorem State.loadWord_kr (nbits w : Nat) : (s.loadWord nbits w).kr = s.kr := rfl
@[simp] theorem State.loadWord_keyValid (nbits w : Nat) : (s.loadWord nbits w).keyValid = s.keyValid := rfl
@[simp] theorem State.loadWord_nonce (nbits w : Nat) : (s.loadWord nbits w).nonce = s.nonce := rfl
@[simp] theorem State.loadWord_ctr (nbits w : Nat) : (s.loadWord nbits w).ctr = s.ctr := rfl
@[simp] theorem State.loadWord_ks (nbits w : Nat) : (s.loadWord nbits w).ks = s.ks := rfl
@[simp] theorem State.loadWord_cur (nbits w : Nat) : (s.loadWord nbits w).cur = s.cur := rfl
@[simp] theorem State.loadWord_ctrValid (nbits w : Nat) : (s.loadWord nbits w).ctrValid = s.ctrValid := rfl
@[simp] theorem State.loadWord_cmdPort (nbits w : Nat) : (s.loadWord nbits w).cmdPort = tableFrame nbits w := rfl
@[simp] theorem State.loadWord_respPort (nbits w : Nat) : (s.loadWord nbits w).respPort = s.respPort := rfl
@[simp] theorem State.loadWord_resetLine (nbits w : Nat) : (s.loadWord nbits w).resetLine = false := rfl

/-! ### The host sending -/

@[simp] theorem State.hostSend_km (stream : List Byte) : (s.hostSend stream).km = s.km := rfl
@[simp] theorem State.hostSend_kr (stream : List Byte) : (s.hostSend stream).kr = s.kr := rfl
@[simp] theorem State.hostSend_keyValid (stream : List Byte) : (s.hostSend stream).keyValid = s.keyValid := rfl
@[simp] theorem State.hostSend_nonce (stream : List Byte) : (s.hostSend stream).nonce = s.nonce := rfl
@[simp] theorem State.hostSend_ctr (stream : List Byte) : (s.hostSend stream).ctr = s.ctr := rfl
@[simp] theorem State.hostSend_ks (stream : List Byte) : (s.hostSend stream).ks = s.ks := rfl
@[simp] theorem State.hostSend_cur (stream : List Byte) : (s.hostSend stream).cur = s.cur := rfl
@[simp] theorem State.hostSend_ctrValid (stream : List Byte) : (s.hostSend stream).ctrValid = s.ctrValid := rfl
@[simp] theorem State.hostSend_cmdPort (stream : List Byte) : (s.hostSend stream).cmdPort = s.cmdPort ++ stream := rfl
@[simp] theorem State.hostSend_respPort (stream : List Byte) : (s.hostSend stream).respPort = s.respPort := rfl
@[simp] theorem State.hostSend_resetLine (stream : List Byte) : (s.hostSend stream).resetLine = s.resetLine := rfl

/-! ### The host asserting reset -/

@[simp] theorem State.hostReset_km : (s.hostReset).km = s.km := rfl
@[simp] theorem State.hostReset_kr : (s.hostReset).kr = s.kr := rfl
@[simp] theorem State.hostReset_keyValid : (s.hostReset).keyValid = s.keyValid := rfl
@[simp] theorem State.hostReset_nonce : (s.hostReset).nonce = s.nonce := rfl
@[simp] theorem State.hostReset_ctr : (s.hostReset).ctr = s.ctr := rfl
@[simp] theorem State.hostReset_ks : (s.hostReset).ks = s.ks := rfl
@[simp] theorem State.hostReset_cur : (s.hostReset).cur = s.cur := rfl
@[simp] theorem State.hostReset_ctrValid : (s.hostReset).ctrValid = s.ctrValid := rfl
@[simp] theorem State.hostReset_cmdPort : (s.hostReset).cmdPort = s.cmdPort := rfl
@[simp] theorem State.hostReset_respPort : (s.hostReset).respPort = s.respPort := rfl
@[simp] theorem State.hostReset_resetLine : (s.hostReset).resetLine = true := rfl

end Sys2Proof.Machine
end

