-- ==== Sys2Proof/Laws/Ctr.lean ====
section
/-! SUPPORT. The streaming XOR: what one byte does to the position and the buffer, and everything `ctrXor` can do. -/

namespace Sys2Proof.Machine

open Sys2Proof

/-- A refill does not move the stream position (R151). -/
theorem refill_position (S : Sbox) (s : State) (h : s.cur = 24) : (s.refill S).position = s.position := by
  simp only [State.position, State.refill_ctr, State.refill_cur, h]
  omega

/-- What consuming one byte makes of a state: the refill it may need, then the cursor's advance (R142, R144). -/
theorem consume_cases (S : Sbox) (s : State) :
    (s.cur = 24 ∧ (s.refillIfEmpty S).advance =
        { s with ks := ksBlock S s.km s.kr s.nonce s.ctr, ctr := s.ctr + 1, cur := 1 } ∧
      (s.refillIfEmpty S).ksByte = keystreamByte S s.km s.kr s.nonce (24 * s.ctr)) ∨
    (s.cur ≠ 24 ∧ (s.refillIfEmpty S).advance = { s with cur := s.cur + 1 } ∧
      (s.refillIfEmpty S).ksByte = s.ks.toList.getD s.cur 0) := by
  by_cases h : s.cur = 24
  · left
    refine ⟨h, ?_, ?_⟩
    · simp [State.refillIfEmpty, h, State.refill, State.advance]
    · have h0 : (24 * s.ctr) / 24 = s.ctr := by omega
      have h1 : (24 * s.ctr) % 24 = 0 := by omega
      simp [State.refillIfEmpty, h, State.refill, State.ksByte, keystreamByte]
  · right
    refine ⟨h, ?_, ?_⟩ <;> simp [State.refillIfEmpty, h, State.advance, State.ksByte]

/-- `ctrXor` writes `CTR`, `KS` and `CUR` only (R146). -/
theorem ctrXor_frame (S : Sbox) (data : List Byte) (s : State) :
    (ctrXor S data s).2 =
      { s with ctr := (ctrXor S data s).2.ctr, ks := (ctrXor S data s).2.ks, cur := (ctrXor S data s).2.cur } := by
  induction data generalizing s with
  | nil => rfl
  | cons b data ih =>
    rw [ctrXor]
    obtain ⟨-, ht, -⟩ | ⟨-, ht, -⟩ := consume_cases S s <;>
    · rw [ht]
      exact ih _

/-- The output is as long as the data (R144). -/
@[simp] theorem ctrXor_length (S : Sbox) (data : List Byte) (s : State) : (ctrXor S data s).1.length = data.length := by
  induction data generalizing s with
  | nil => rfl
  | cons b data ih => simp [ctrXor, ih]

/-- Data in two parts is consumed as the first part and then the second (R149). -/
theorem ctrXor_append (S : Sbox) (a b : List Byte) (s : State) :
    ctrXor S (a ++ b) s =
      ((ctrXor S a s).1 ++ (ctrXor S b (ctrXor S a s).2).1, (ctrXor S b (ctrXor S a s).2).2) := by
  induction a generalizing s with
  | nil => rfl
  | cons x a ih => simp [ctrXor, ih]

/-- Each consumed byte advances the position by one, and leaves the cursor in 1..24 (R30, R151). -/
theorem ctrXor_position (S : Sbox) (data : List Byte) (s : State) (hc : s.cur ≤ 24) (hp : s.cur < 24 → 1 ≤ s.ctr) :
    (ctrXor S data s).2.position = s.position + data.length ∧ (ctrXor S data s).2.cur ≤ 24 ∧
      ((ctrXor S data s).2.cur < 24 → 1 ≤ (ctrXor S data s).2.ctr) ∧
      (data ≠ [] → 1 ≤ (ctrXor S data s).2.cur) := by
  induction data generalizing s with
  | nil => exact ⟨rfl, hc, hp, fun h => absurd rfl h⟩
  | cons b data ih =>
    have key : ∀ u : State, (s.refillIfEmpty S).advance = u → u.cur ≤ 24 → 1 ≤ u.cur → 1 ≤ u.ctr →
        u.position = s.position + 1 →
        (ctrXor S (b :: data) s).2.position = s.position + (b :: data).length ∧ (ctrXor S (b :: data) s).2.cur ≤ 24 ∧
        ((ctrXor S (b :: data) s).2.cur < 24 → 1 ≤ (ctrXor S (b :: data) s).2.ctr) ∧
        (b :: data ≠ [] → 1 ≤ (ctrXor S (b :: data) s).2.cur) := by
      intro u hu h24 h1 hct hpos
      have hrec : (ctrXor S (b :: data) s).2 = (ctrXor S data u).2 := by rw [ctrXor]; simp only [hu]
      rw [hrec]
      obtain ⟨h₁, h₂, h₃, h₄⟩ := ih u h24 fun _ => hct
      refine ⟨by rw [h₁, hpos, List.length_cons]; omega, h₂, h₃, fun _ => ?_⟩
      by_cases hd : data = []
      · subst hd; simpa [ctrXor] using h1
      · exact h₄ hd
    obtain ⟨h24, ht, -⟩ | ⟨h24, ht, -⟩ := consume_cases S s
    · exact key _ ht (by simp) (by simp) (by simp) (by simp only [State.position]; omega)
    · have := hp (by omega)
      exact key _ ht (by simp only; omega) (by simp) (by simpa using this) (by simp only [State.position]; omega)

/-- Output byte `i`: the buffered bytes first, then the keystream of the current keys (R144, R151). -/
theorem ctrXor_output (S : Sbox) (data : List Byte) (s : State) (hc : s.cur ≤ 24) (hp : s.cur < 24 → 1 ≤ s.ctr) (i : Nat)
    (hi : i < data.length) :
    (ctrXor S data s).1.getD i 0 = data.getD i 0 ^^^
      (if i < 24 - s.cur then s.ks.toList.getD (s.cur + i) 0
       else keystreamByte S s.km s.kr s.nonce (s.position + i)) := by
  induction data generalizing s i with
  | nil => simp at hi
  | cons b data ih =>
    rw [ctrXor]
    obtain ⟨h24, ht, hk⟩ | ⟨h24, ht, hk⟩ := consume_cases S s
    · have hpos : s.position = 24 * s.ctr := by simp only [State.position, h24]; omega
      cases i with
      | zero => simp [hk, h24, hpos]
      | succ i =>
        simp only [List.getD_cons_succ, ht]
        rw [ih _ (by simp) (by simp) i (by simpa using hi)]
        congr 1
        have hz : ¬ i + 1 < 24 - s.cur := by omega
        simp only [hz, if_false, State.position]
        split
        next hlt =>
          have hq : (24 * s.ctr + (i + 1)) / 24 = s.ctr := by omega
          have hr : (24 * s.ctr + (i + 1)) % 24 = 1 + i := by omega
          simp only [h24, Nat.sub_self, Nat.sub_zero, keystreamByte, hq, hr]
          have : 1 + i < 24 := by omega
          simp [this]
        next => congr 1; omega
    · have := hp (by omega)
      cases i with
      | zero =>
        have hz : 0 < 24 - s.cur := by omega
        simp [hk, hz]
      | succ i =>
        simp only [List.getD_cons_succ, ht]
        rw [ih _ (by simp only; omega) (by simp only; omega) i (by simpa using hi)]
        congr 1
        simp only [State.position]
        split
        next hlt =>
          have : i + 1 < 24 - s.cur := by omega
          simp only [this, if_true]
          congr 1
          omega
        next hge =>
          have : ¬ i + 1 < 24 - s.cur := by omega
          simp only [this, if_false]
          congr 1
          omega

/-- The buffer after `ctrXor` is the one before, or the keystream block of index `CTR − 1` under the current keys (R36). -/
theorem ctrXor_buffer (S : Sbox) (data : List Byte) (s : State) :
    ((ctrXor S data s).2.ctr = s.ctr ∧ (ctrXor S data s).2.ks = s.ks ∧ s.cur ≤ (ctrXor S data s).2.cur) ∨
      (s.ctr + 1 ≤ (ctrXor S data s).2.ctr ∧
        (ctrXor S data s).2.ks = ksBlock S s.km s.kr s.nonce ((ctrXor S data s).2.ctr - 1)) := by
  induction data generalizing s with
  | nil => exact .inl ⟨rfl, rfl, Nat.le_refl _⟩
  | cons b data ih =>
    rw [ctrXor]
    obtain ⟨-, ht, -⟩ | ⟨-, ht, -⟩ := consume_cases S s
    · rw [ht]
      right
      obtain ⟨h₁, h₂, -⟩ | ⟨h₁, h₂⟩ := ih { s with ks := ksBlock S s.km s.kr s.nonce s.ctr, ctr := s.ctr + 1, cur := 1 }
      · simp only at h₁ h₂ ⊢
        rw [h₁, h₂]
        simp
      · simp only at h₁ h₂ ⊢
        exact ⟨by omega, h₂⟩
    · rw [ht]
      obtain ⟨h₁, h₂, h₃⟩ | ⟨h₁, h₂⟩ := ih { s with cur := s.cur + 1 }
      · exact .inl ⟨h₁, h₂, by simp only at h₃ ⊢; omega⟩
      · exact .inr ⟨h₁, h₂⟩

/-- A data command would exhaust the counter exactly when its data would run past the last keystream byte (R141, R146,
R208). -/
theorem wouldExhaust_iff (s : State) (len : Nat) (hc : s.cur ≤ 24) (ht : s.ctr ≤ 2 ^ 64) (hp : s.cur < 24 → 1 ≤ s.ctr) :
    s.wouldExhaust len = true ↔ 24 * 2 ^ 64 < s.position + len := by
  have hpos : s.position = 24 * s.ctr - (24 - s.cur) := rfl
  by_cases hl : len ≤ 24 - s.cur
  · have hk : s.refillsNeeded len = 0 := by simp [State.refillsNeeded, State.available, hl]
    simp only [State.wouldExhaust, hk]
    simp only [Nat.le_zero_eq, one_ne_zero, decide_false, Bool.false_and, Bool.false_eq_true, false_iff, not_lt]
    omega
  · have hk : s.refillsNeeded len = (len - (24 - s.cur) + 23) / 24 := by simp [State.refillsNeeded, State.available, hl]
    rw [State.wouldExhaust, Bool.and_eq_true, decide_eq_true_iff, decide_eq_true_iff, hk]
    have : Config.ctrLimit = 2 ^ 64 := rfl
    omega

end Sys2Proof.Machine
end

