-- ==== Sys2Proof/Laws/Ops.lean ====
section
/-! SUPPORT. The shared operations of the commands: what each answers, said once. -/

namespace Sys2Proof.Machine

open Sys2Proof

/-- Taking a fault sends the four bytes `STATUS 00 00 00` and changes nothing else (R204). -/
theorem raiseFault_eq (s : State) (f : EngineFault) :
    s.raiseFault f = { s with respPort := s.respPort ++ [f.status, 0x00, 0x00, 0x00] } := rfl

/-- Completing a command sends its response frame and changes nothing else (R62). -/
theorem respond_eq (s : State) (p : List Byte) :
    s.respond p = { s with respPort := s.respPort ++ (0x00 :: bytes24 p.length ++ p) } := rfl

/-- Completing a command with a payload of `n` bytes: the response frame, with `n` in its length field (R62). -/
theorem respond_of_length (s : State) {p : List Byte} {n : Nat} (h : p.length = n) :
    s.respond p = { s with respPort := s.respPort ++ (0x00 :: bytes24 n ++ p) } := by
  subst h
  rfl

/-- Every fault code is 0x01 to 0x07 (R200). -/
theorem status_range (f : EngineFault) : f.status ≠ 0 ∧ f.status.toNat ≤ 7 := by
  cases f <;> decide

/-- A rotation amount is a legal rotation word (R72). -/
@[simp] theorem rotLegal_rotWord (r : Rot) : rotLegal (rotWord r) = true := by
  have := r.isLt
  simp only [rotLegal, rotWord, BitVec.toNat_setWidth, decide_eq_true_iff]
  omega

/-- A rotation amount crosses the interface unchanged (R22, R72). -/
@[simp] theorem rotOf_rotWord (r : Rot) : rotOf (rotWord r) = r := by
  apply BitVec.eq_of_toNat_eq
  have := r.isLt
  simp only [rotOf, rotWord, BitVec.toNat_setWidth]
  omega

/-- Rotation amounts, sent as words, are read back (R72). -/
theorem rotOperands_rotWord {n : Nat} (tr : Vector Rot n) : rotOperands (tr.map rotWord) = some tr := by
  have h : (tr.map rotWord).toList.all rotLegal = true := by simp
  rw [rotOperands, if_pos h, Option.some.injEq]
  apply Vector.ext
  intro i hi
  simp

/-- Rotation operands are refused exactly when some word is above 31 (R206). -/
theorem rotOperands_eq_none_iff {n : Nat} (ws : Vector Word n) :
    rotOperands ws = none ↔ ∃ j, ∃ h : j < n, 31 < ws[j].toNat := by
  simp only [rotOperands, ite_eq_right_iff, reduceCtorEq, imp_false, List.all_eq_true, not_forall]
  constructor
  · rintro ⟨w, hm, hw⟩
    obtain ⟨j, hj, rfl⟩ := List.getElem_of_mem hm
    exact ⟨j, by simpa using hj, by simpa [rotLegal] using hw⟩
  · rintro ⟨j, hj, hw⟩
    exact ⟨ws[j], by simp, by simpa [rotLegal] using hw⟩

/-- The block commands: a wrong length, then no key, then the transform (R127, R128). -/
theorem blockCommand_eq (f : Vector Word 72 → Vector Rot 72 → Vector Byte 24 → Vector Byte 24) (p : List Byte) (s : State) :
    blockCommand f p s =
      if p.length ≠ 24 then s.raiseFault .badLength
      else if s.keyValid = false then s.raiseFault .notKeyed
      else s.respond (f s.km s.kr (storeOf 24 0 p)).toList := by
  by_cases h : p.length = 24 <;> by_cases hk : s.keyValid <;> simp [blockCommand, operandsB, legalLen, h, hk]

/-- The store-reading commands: a wrong length, then no key, then the store (R165, R166). -/
theorem readStoreCommand_eq (f : State → List Word) (p : List Byte) (s : State) :
    readStoreCommand f p s =
      if p.length ≠ 0 then s.raiseFault .badLength
      else if s.keyValid = false then s.raiseFault .notKeyed
      else s.respond (bytes (f s)) := by
  by_cases h : p = [] <;> by_cases hk : s.keyValid <;> simp [readStoreCommand, operandsN, legalLen, h, hk]

/-- The data commands: not initialised, then exhausted, then the streaming XOR (R146). -/
theorem ctrDataCommand_eq (S : Sbox) (data : List Byte) (s : State) :
    ctrDataCommand S data s =
      if s.ctrValid = false then s.raiseFault .ctrNotInit
      else if s.wouldExhaust data.length then s.raiseFault .ctrExhausted
      else (ctrXor S data s).2.respond (ctrXor S data s).1 := by
  by_cases h : s.ctrValid <;> simp [ctrDataCommand, h]

/-- A validation command answers or refuses, and writes nothing (R178). -/
theorem answer_eq (s : State) (a : Except EngineFault (List Byte)) :
    (∃ p, a = .ok p ∧ s.answer a = s.respond p) ∨ ∃ f, a = .error f ∧ s.answer a = s.raiseFault f := by
  cases a with
  | ok p => exact .inl ⟨p, rfl, rfl⟩
  | error f => exact .inr ⟨f, rfl, rfl⟩

/-- A response frame determines its status and its payload (R62). -/
theorem response_payload_unique {a b : List Byte} {pre : List Byte} {x y : Byte}
    (h : pre ++ (x :: bytes24 a.length ++ a) = pre ++ (y :: bytes24 b.length ++ b)) : x = y ∧ a = b := by
  have := List.append_cancel_left h
  simp only [bytes24, List.cons_append, List.nil_append, List.cons.injEq] at this
  exact ⟨this.1, this.2.2.2.2⟩

/-- Installing a key writes the two stores and `KEY_VALID`, and nothing else (R107). -/
theorem installKey_eq (S : Sbox) (key : List Byte) (s : State) :
    s.installKey S key =
      { s with km := (deriveKeys S key).1, kr := (deriveKeys S key).2, keyValid := true } := by
  simp only [State.installKey, State.setRoundKeys, State.setKeyValid]

/-- One rotation operand is refused exactly when it is above 31 (R206). -/
theorem rotOperand_eq (w : Word) : rotOperand w = if 31 < w.toNat then none else some (rotOf w) := by
  by_cases h : w.toNat ≤ 31
  · simp [rotOperand, rotLegal, h, not_lt.mpr h]
  · simp [rotOperand, rotLegal, h, not_le.mp h]

/-- The F commands: a wrong length, then a rotation word above 31, then the combine function (R179). -/
theorem fAnswer_eq (f : Word → Word → Rot → Word) (p : List Byte) :
    fAnswer f p =
      if p.length ≠ 12 then .error .badLength
      else if 31 < (wordAt p 8).toNat then .error .badOperand
      else .ok (bytes32 (f (wordAt p 0) (wordAt p 4) (rotOf (wordAt p 8)))) := by
  by_cases h : p.length = 12
  · by_cases hr : 31 < (wordAt p 8).toNat <;> simp [fAnswer, operandsF, legalLen, h, rotOperand_eq, hr]
  · simp [fAnswer, operandsF, legalLen, h]

/-- HEXAD and HEXADINV: a wrong length, then the rotation words, then the round function (R170, R171). -/
theorem hexadAnswer_eq (f : Vector Word 6 → Vector Word 6 → Vector Rot 6 → Vector Word 6) (p : List Byte) :
    hexadAnswer f p =
      if p.length ≠ 72 then .error .badLength
      else match rotOperands (wordsAt 6 p 48) with
        | none => .error .badOperand
        | some kr => .ok (bytes (f (wordsAt 6 p 0) (wordsAt 6 p 24) kr).toList) := by
  by_cases h : p.length = 72
  · cases hr : rotOperands (wordsAt 6 p 48) <;> simp [hexadAnswer, operandsH, legalLen, h, hr]
  · simp [hexadAnswer, operandsH, legalLen, h]

/-- DODECAD: a wrong length, then the rotation words, then the dodecad (R169). -/
theorem dodecadAnswer_eq (S : Sbox) (p : List Byte) :
    dodecadAnswer S p =
      if p.length ≠ 144 then .error .badLength
      else match rotOperands (wordsAt 12 p 96) with
        | none => .error .badOperand
        | some tr => .ok (bytes (dodecad S (wordsAt 12 p 0) (wordsAt 12 p 48) tr).toList) := by
  by_cases h : p.length = 144
  · cases hr : rotOperands (wordsAt 12 p 96) <;> simp [dodecadAnswer, operandsD, legalLen, h, hr]
  · simp [dodecadAnswer, operandsD, legalLen, h]

/-- CTR_SEEK: not initialised, then out of range, then the move (R148). -/
theorem ctrSeekCommand_eq (c : List Byte) (s : State) :
    ctrSeekCommand c s =
      if s.ctrValid = false then s.raiseFault .ctrNotInit
      else if Config.ctrLimit ≤ beInt c then s.raiseFault .seekRange
      else (s.moveTo (beInt c)).respond [] := by
  by_cases h : s.ctrValid
  · by_cases hc : beInt c < Config.ctrLimit
    · simp [ctrSeekCommand, h, hc, not_le.mpr hc]
    · simp [ctrSeekCommand, h, hc, not_lt.mp hc]
  · simp [ctrSeekCommand, h]

/-- CTR_INIT: a payload shorter than a nonce, then the whole initialisation (R145). -/
theorem ctrInitCommand_eq (S : Sbox) (p : List Byte) (s : State) :
    ctrInitCommand S p s =
      if p.length < 16 then s.raiseFault .badLength
      else State.respond { s with km := (deriveKeys S (p.drop 16)).1, kr := (deriveKeys S (p.drop 16)).2,
                                  keyValid := true, nonce := storeOf 16 0 p, ctr := 0, cur := 24, ctrValid := true }
        [] := by
  by_cases h : p.length < 16
  · simp [ctrInitCommand, operandsNK, legalLen, h, not_le.mpr h]
  · have h' : 16 ≤ p.length := not_lt.mp h
    simp only [ctrInitCommand, operandsNK, legalLen, h, h', decide_true, if_true, if_false, installKey_eq,
      State.setNonce, State.moveTo, State.setCtrValid]

end Sys2Proof.Machine
end

