-- ==== Sys2Proof/Laws/PerInstr.lean ====
section
/-! SUPPORT. What holds of every command as syntax, one lemma a command: the header of its frame matches its row of
spec/opcode_table.json, and its format is the row's. -/

namespace Sys2Proof.Laws

open Sys2Proof Sys2Proof.Machine

/-- The column "match" of spec/opcode_table.json. -/
def tableMatch : Instr → Word
  | .keyInit _ => 0x10000000
  | .encBlock _ => 0x11000000
  | .decBlock _ => 0x12000000
  | .rdKm _ => 0x13000000
  | .rdKr _ => 0x14000000
  | .ctrInit _ => 0x20000000
  | .ctrEncrypt _ => 0x21000000
  | .ctrDecrypt _ => 0x22000000
  | .ctrSeek _ => 0x23000000
  | .genSched _ => 0x30000000
  | .genRk _ => 0x31000000
  | .dodecad _ => 0x32000000
  | .hexad _ => 0x33000000
  | .hexadInv _ => 0x34000000
  | .f1 _ => 0x41000000
  | .f2 _ => 0x42000000
  | .f3 _ => 0x43000000
  | .f4 _ => 0x44000000
  | .f5 _ => 0x45000000
  | .f6 _ => 0x46000000

/-- The header word of a frame, masked to its opcode field, is the opcode shifted into place (R61). -/
theorem header_masked (opc : Byte) (p rest : List Byte) :
    wordAt (frameBytes opc p ++ rest) 0 &&& 0xFF000000 = opc ++ (0 : BitVec 24) := by
  apply BitVec.eq_of_getLsbD_eq
  intro i hi
  simp only [wordAt, be32, frameBytes, bytes24, BitVec.getLsbD_and, BitVec.getLsbD_append]
  interval_cases i <;> simp

/-- The command's frame begins with its table row's "match" under the mask `0xFF000000`, and its opcode selects it. -/
def HeaderMatchesTable.Statement (i : Instr) : Prop :=
  wordAt (encode i) 0 &&& 0xFF000000 = tableMatch i ∧ commandOf i.opcode i.payload = some i

/-- The shape every lemma of the family has. -/
theorem header_statement (i : Instr) (h : i.opcode ++ (0 : BitVec 24) = tableMatch i)
    (hc : commandOf i.opcode i.payload = some i) : HeaderMatchesTable.Statement i := by
  refine ⟨?_, hc⟩
  have := header_masked i.opcode i.payload []
  rw [List.append_nil] at this
  exact this.trans h

theorem HeaderMatchesTable.keyInit (key : List Byte) : HeaderMatchesTable.Statement (.keyInit key) :=
  header_statement _ (by simp only [Instr.opcode, tableMatch]; decide) rfl

theorem HeaderMatchesTable.encBlock (p : List Byte) : HeaderMatchesTable.Statement (.encBlock p) :=
  header_statement _ (by simp only [Instr.opcode, tableMatch]; decide) rfl

theorem HeaderMatchesTable.decBlock (p : List Byte) : HeaderMatchesTable.Statement (.decBlock p) :=
  header_statement _ (by simp only [Instr.opcode, tableMatch]; decide) rfl

theorem HeaderMatchesTable.rdKm (p : List Byte) : HeaderMatchesTable.Statement (.rdKm p) :=
  header_statement _ (by simp only [Instr.opcode, tableMatch]; decide) rfl

theorem HeaderMatchesTable.rdKr (p : List Byte) : HeaderMatchesTable.Statement (.rdKr p) :=
  header_statement _ (by simp only [Instr.opcode, tableMatch]; decide) rfl

theorem HeaderMatchesTable.ctrInit (p : List Byte) : HeaderMatchesTable.Statement (.ctrInit p) :=
  header_statement _ (by simp only [Instr.opcode, tableMatch]; decide) rfl

theorem HeaderMatchesTable.ctrEncrypt (data : List Byte) : HeaderMatchesTable.Statement (.ctrEncrypt data) :=
  header_statement _ (by simp only [Instr.opcode, tableMatch]; decide) rfl

theorem HeaderMatchesTable.ctrDecrypt (data : List Byte) : HeaderMatchesTable.Statement (.ctrDecrypt data) :=
  header_statement _ (by simp only [Instr.opcode, tableMatch]; decide) rfl

theorem HeaderMatchesTable.ctrSeek (counterBytes : List Byte) : HeaderMatchesTable.Statement (.ctrSeek counterBytes) :=
  header_statement _ (by simp only [Instr.opcode, tableMatch]; decide) rfl

theorem HeaderMatchesTable.genSched (p : List Byte) : HeaderMatchesTable.Statement (.genSched p) :=
  header_statement _ (by simp only [Instr.opcode, tableMatch]; decide) rfl

theorem HeaderMatchesTable.genRk (p : List Byte) : HeaderMatchesTable.Statement (.genRk p) :=
  header_statement _ (by simp only [Instr.opcode, tableMatch]; decide) rfl

theorem HeaderMatchesTable.dodecad (p : List Byte) : HeaderMatchesTable.Statement (.dodecad p) :=
  header_statement _ (by simp only [Instr.opcode, tableMatch]; decide) rfl

theorem HeaderMatchesTable.hexad (p : List Byte) : HeaderMatchesTable.Statement (.hexad p) :=
  header_statement _ (by simp only [Instr.opcode, tableMatch]; decide) rfl

theorem HeaderMatchesTable.hexadInv (p : List Byte) : HeaderMatchesTable.Statement (.hexadInv p) :=
  header_statement _ (by simp only [Instr.opcode, tableMatch]; decide) rfl

theorem HeaderMatchesTable.f1 (p : List Byte) : HeaderMatchesTable.Statement (.f1 p) :=
  header_statement _ (by simp only [Instr.opcode, tableMatch]; decide) rfl

theorem HeaderMatchesTable.f2 (p : List Byte) : HeaderMatchesTable.Statement (.f2 p) :=
  header_statement _ (by simp only [Instr.opcode, tableMatch]; decide) rfl

theorem HeaderMatchesTable.f3 (p : List Byte) : HeaderMatchesTable.Statement (.f3 p) :=
  header_statement _ (by simp only [Instr.opcode, tableMatch]; decide) rfl

theorem HeaderMatchesTable.f4 (p : List Byte) : HeaderMatchesTable.Statement (.f4 p) :=
  header_statement _ (by simp only [Instr.opcode, tableMatch]; decide) rfl

theorem HeaderMatchesTable.f5 (p : List Byte) : HeaderMatchesTable.Statement (.f5 p) :=
  header_statement _ (by simp only [Instr.opcode, tableMatch]; decide) rfl

theorem HeaderMatchesTable.f6 (p : List Byte) : HeaderMatchesTable.Statement (.f6 p) :=
  header_statement _ (by simp only [Instr.opcode, tableMatch]; decide) rfl

end Sys2Proof.Laws
end

