-- ==== Sys2Proof/Laws/Step.lean ====
section
/-! SUPPORT. The step and the decoder: the cases of a step said once, and the opcode map read in both directions. -/

namespace Sys2Proof.Machine

open Sys2Proof

/-- The opcode of a command selects that command (R65). -/
theorem commandOf_opcode (i : Instr) : commandOf i.opcode i.payload = some i := by
  cases i <;> rfl

/-- A command that the opcode map gives has that opcode and that payload (R65). -/
theorem commandOf_eq_some {opc : Byte} {p : List Byte} {i : Instr} (h : commandOf opc p = some i) :
    i.opcode = opc ∧ i.payload = p := by
  unfold commandOf at h
  split at h <;>
  first
  | (cases h; done)
  | (next hopc =>
      cases h
      exact ⟨BitVec.eq_of_toNat_eq (by rw [hopc]; rfl), rfl⟩)

/-- The opcode map refuses exactly the reserved opcodes (R67). -/
theorem commandOf_eq_none_iff (opc : Byte) (p : List Byte) : commandOf opc p = none ↔ opc.toNat ∉ assignedOpcodes := by
  unfold commandOf
  split <;> simp_all [assignedOpcodes]

/-- The four things a step can be: a reset, a wait, a reserved opcode refused, a command executed. -/
theorem step_cases (s : State) :
    (s.resetLine = true ∧ step s = .next s.applyReset) ∨
    (s.resetLine = false ∧ takeFrame s.cmdPort = none ∧ step s = .next s) ∨
    ∃ f rest, s.resetLine = false ∧ takeFrame s.cmdPort = some (f, rest) ∧
      ((commandOf f.opc f.payload = none ∧ step s = .next ((s.setCmdPort rest).raiseFault .illegalOpcode)) ∨
       ∃ i, commandOf f.opc f.payload = some i ∧ step s = exec i (s.setCmdPort rest)) := by
  cases hr : s.resetLine with
  | true => left; simp [step, State.pending, hr]
  | false =>
    right
    cases ht : takeFrame s.cmdPort with
    | none => left; simp [step, State.pending, hr, decode, ht]
    | some fr =>
      right
      refine ⟨fr.1, fr.2, rfl, rfl, ?_⟩
      cases hc : commandOf fr.1.opc fr.1.payload with
      | none => left; simp [step, State.pending, hr, decode, ht, hc]
      | some i => right; exact ⟨i, rfl, by simp [step, State.pending, hr, decode, ht, hc]⟩

/-- A command always has a next state: the machine has no stop (R16, R204). -/
theorem exec_next (i : Instr) (s : State) : ∃ t, exec i s = .next t := by
  cases i <;> exact ⟨_, rfl⟩

end Sys2Proof.Machine
end

