-- ==== Sys2Proof/Machine/TextForm.lean ====
section
/-! DEFINITION. The spec's one-line text of a command and of a response (R76, R77). It has no semantic content (decision
D18); nothing else of the model uses it. -/

namespace Sys2Proof.Machine

open Sys2Proof

/-- A hexadecimal digit. -/
def hexDigit (n : Nat) : Char :=
  "0123456789ABCDEF".toList.getD n '0'

/-- A byte as two hexadecimal digits. -/
def hexByte (b : Byte) : String :=
  String.ofList [hexDigit (b.toNat / 16), hexDigit (b.toNat % 16)]

/-- `<hex>`: two digits a byte, first byte first; the empty sequence is `-` (R76). -/
def hexText : List Byte → String
  | [] => "-"
  | b :: bs => " ".intercalate ((b :: bs).map hexByte)

/-- `<word>`: `0x` and eight digits (R76). -/
def wordText (w : Word) : String :=
  "0x" ++ String.join ((bytes32 w).map hexByte)

/-- A list of words, separated by commas (R76). -/
def wordsText (ws : List Word) : String :=
  ",".intercalate (ws.map wordText)

/-- A list of decimals, separated by commas (R76). -/
def decsText (ws : List Word) : String :=
  ",".intercalate (ws.map fun w => toString w.toNat)

/-- The operands of a HEXAD or HEXADINV (R76). -/
def hexadText (p : List Byte) : Option String :=
  (operandsH p).map fun (w, km, kr) =>
    " w=" ++ wordsText w.toList ++ " km=" ++ wordsText km.toList ++ " kr=" ++ decsText kr.toList

/-- The operands of an F command (R76). -/
def fText (p : List Byte) : Option String :=
  (operandsF p).map fun (d, km, kr) => " d=" ++ wordText d ++ " km=" ++ wordText km ++ " kr=" ++ toString kr.toNat

/-- A command as one line of text; `none` where its length is not legal, for which R76 gives no text (log entry 16). -/
def commandText : Instr → Option String
  | .keyInit key => some ("KEY_INIT key=" ++ hexText key)
  | .encBlock p => (operandsB p).map fun blk => "ENC_BLOCK blk=" ++ hexText blk.toList
  | .decBlock p => (operandsB p).map fun blk => "DEC_BLOCK blk=" ++ hexText blk.toList
  | .rdKm p => (operandsN p).map fun _ => "RD_KM"
  | .rdKr p => (operandsN p).map fun _ => "RD_KR"
  | .ctrInit p => (operandsNK p).map fun (nonce, key) => "CTR_INIT nonce=" ++ hexText nonce.toList ++ " key=" ++ hexText key
  | .ctrEncrypt data => some ("CTR_ENCRYPT data=" ++ hexText data)
  | .ctrDecrypt data => some ("CTR_DECRYPT data=" ++ hexText data)
  | .ctrSeek ctr => some ("CTR_SEEK ctr=" ++ hexText ctr)
  | .genSched p => (operandsP p).map fun (r, d) => "GEN_SCHED r=" ++ toString r ++ " d=" ++ toString d
  | .genRk p =>
    (operandsPK p).map fun (r, d, key) => "GEN_RK r=" ++ toString r ++ " d=" ++ toString d ++ " key=" ++ hexText key
  | .dodecad p => (operandsD p).map fun (k, tm, tr) =>
    "DODECAD k=" ++ wordsText k.toList ++ " tm=" ++ wordsText tm.toList ++ " tr=" ++ decsText tr.toList
  | .hexad p => (hexadText p).map ("HEXAD" ++ ·)
  | .hexadInv p => (hexadText p).map ("HEXADINV" ++ ·)
  | .f1 p => (fText p).map ("F1" ++ ·)
  | .f2 p => (fText p).map ("F2" ++ ·)
  | .f3 p => (fText p).map ("F3" ++ ·)
  | .f4 p => (fText p).map ("F4" ++ ·)
  | .f5 p => (fText p).map ("F5" ++ ·)
  | .f6 p => (fText p).map ("F6" ++ ·)

/-- The name of a fault (R200). -/
def faultText : EngineFault → String
  | .illegalOpcode => "ILLEGAL_OPCODE"
  | .badLength => "BAD_LENGTH"
  | .notKeyed => "NOT_KEYED"
  | .ctrNotInit => "CTR_NOT_INIT"
  | .badOperand => "BAD_OPERAND"
  | .seekRange => "SEEK_RANGE"
  | .ctrExhausted => "CTR_EXHAUSTED"

/-- A response as text: `OK` and its payload, or `FAULT` and the fault's name (R76). -/
def responseText : Except EngineFault (List Byte) → String
  | .ok [] => "OK"
  | .ok (b :: p) => "OK " ++ hexText (b :: p)
  | .error f => "FAULT " ++ faultText f

end Sys2Proof.Machine
end

