-- ==== Sys2Proof/Tests/Slice0.lean ====
section
/-! SUPPORT. Tests: the smoke test of WellFormed, the decoding of every command, one or two small runs a command on the
vectors of spec/95_test_vectors.md, and for every obligation with hypotheses a named witness that meets them together. -/

namespace Sys2Proof.Tests

set_option Elab.async false

open Sys2Proof Sys2Proof.Machine

/-! ### Small states and readings of an outcome -/

/-- The response port after an outcome; a stop has none. -/
def responses : Host.Outcome State Fault Refusal → List Byte
  | .next s => s.respPort
  | .fault _ => []
  | .refused _ => []

/-- The responses to the frames of a stream after one step from reset. -/
def answerTo (stream : List Byte) : List Byte :=
  responses (step (State.reset.hostSend stream))

/-- The key `00 01 .. 2F` of the spec's vectors. -/
def key2F : List Byte := (List.range 48).map (BitVec.ofNat 8)

/-- The block `00 01 .. 17` of the spec's vectors. -/
def block17 : List Byte := (List.range 24).map (BitVec.ofNat 8)

/-- The nonce `A0 A1 .. AF` of the spec's vectors. -/
def nonceAF : List Byte := (List.range 16).map fun n => BitVec.ofNat 8 (0xA0 + n)

/-- `SBOX_ZERO`, all table entries zero (spec/95_test_vectors.md). -/
def zeroTables : Sbox := ⟨fun _ => 0, fun _ => 0, fun _ => 0, fun _ => 0⟩

/-- An engine with a key flag, as after a KEY_INIT. -/
def keyed : State := { State.reset with keyValid := true }

/-- An engine with a live CTR state at a counter and a cursor. -/
def live (ctr cur : Nat) : State := { keyed with ctrValid := true, ctr := ctr, cur := cur }

/-- An engine in the middle of keystream block 0, with keys and buffer as its commands leave them. -/
def midBlock : State :=
  { live 1 5 with
    km := (deriveKeys Config.sbox []).1
    kr := (deriveKeys Config.sbox []).2
    ks := ksBlock Config.sbox (deriveKeys Config.sbox []).1 (deriveKeys Config.sbox []).2 State.reset.nonce 0 }

/-! ### WellFormed: the one check, on both sides of its bound -/

/-- A payload of 2^24 bytes has no frame (R61), so the term is refused. -/
theorem test_wellFormed_refuses_payload_too_long : ¬ (Instr.keyInit (List.replicate (2 ^ 24) 0)).WellFormed := by
  rw [Instr.WellFormed, Instr.payload, List.length_replicate]
  decide

/-- The longest payload a frame can carry is well formed. -/
theorem test_wellFormed_longest_payload : (Instr.keyInit (List.replicate (2 ^ 24 - 1) 0)).WellFormed := by
  rw [Instr.WellFormed, Instr.payload, List.length_replicate]
  decide

/-! ### Decoding, one frame and one table word a command, written out from R61 and R65 -/

theorem test_decode_keyInit :
    decode [0x10, 0x00, 0x00, 0x02, 0xC1, 0x5A, 0x7E] = .ok (.keyInit [0xC1, 0x5A], [0x7E]) ∧
      decodeTableWord 32 0x10000000 = some (.keyInit []) := by
  constructor <;> decide +kernel

theorem test_decode_encBlock :
    decode [0x11, 0x00, 0x00, 0x02, 0xC1, 0x5A, 0x7E] = .ok (.encBlock [0xC1, 0x5A], [0x7E]) ∧
      decodeTableWord 32 0x11000000 = some (.encBlock []) := by
  constructor <;> decide +kernel

theorem test_decode_decBlock :
    decode [0x12, 0x00, 0x00, 0x02, 0xC1, 0x5A, 0x7E] = .ok (.decBlock [0xC1, 0x5A], [0x7E]) ∧
      decodeTableWord 32 0x12000000 = some (.decBlock []) := by
  constructor <;> decide +kernel

theorem test_decode_rdKm :
    decode [0x13, 0x00, 0x00, 0x02, 0xC1, 0x5A, 0x7E] = .ok (.rdKm [0xC1, 0x5A], [0x7E]) ∧
      decodeTableWord 32 0x13000000 = some (.rdKm []) := by
  constructor <;> decide +kernel

theorem test_decode_rdKr :
    decode [0x14, 0x00, 0x00, 0x02, 0xC1, 0x5A, 0x7E] = .ok (.rdKr [0xC1, 0x5A], [0x7E]) ∧
      decodeTableWord 32 0x14000000 = some (.rdKr []) := by
  constructor <;> decide +kernel

theorem test_decode_ctrInit :
    decode [0x20, 0x00, 0x00, 0x02, 0xC1, 0x5A, 0x7E] = .ok (.ctrInit [0xC1, 0x5A], [0x7E]) ∧
      decodeTableWord 32 0x20000000 = some (.ctrInit []) := by
  constructor <;> decide +kernel

theorem test_decode_ctrEncrypt :
    decode [0x21, 0x00, 0x00, 0x02, 0xC1, 0x5A, 0x7E] = .ok (.ctrEncrypt [0xC1, 0x5A], [0x7E]) ∧
      decodeTableWord 32 0x21000000 = some (.ctrEncrypt []) := by
  constructor <;> decide +kernel

theorem test_decode_ctrDecrypt :
    decode [0x22, 0x00, 0x00, 0x02, 0xC1, 0x5A, 0x7E] = .ok (.ctrDecrypt [0xC1, 0x5A], [0x7E]) ∧
      decodeTableWord 32 0x22000000 = some (.ctrDecrypt []) := by
  constructor <;> decide +kernel

theorem test_decode_ctrSeek :
    decode [0x23, 0x00, 0x00, 0x02, 0xC1, 0x5A, 0x7E] = .ok (.ctrSeek [0xC1, 0x5A], [0x7E]) ∧
      decodeTableWord 32 0x23000000 = some (.ctrSeek []) := by
  constructor <;> decide +kernel

theorem test_decode_genSched :
    decode [0x30, 0x00, 0x00, 0x02, 0xC1, 0x5A, 0x7E] = .ok (.genSched [0xC1, 0x5A], [0x7E]) ∧
      decodeTableWord 32 0x30000000 = some (.genSched []) := by
  constructor <;> decide +kernel

theorem test_decode_genRk :
    decode [0x31, 0x00, 0x00, 0x02, 0xC1, 0x5A, 0x7E] = .ok (.genRk [0xC1, 0x5A], [0x7E]) ∧
      decodeTableWord 32 0x31000000 = some (.genRk []) := by
  constructor <;> decide +kernel

theorem test_decode_dodecad :
    decode [0x32, 0x00, 0x00, 0x02, 0xC1, 0x5A, 0x7E] = .ok (.dodecad [0xC1, 0x5A], [0x7E]) ∧
      decodeTableWord 32 0x32000000 = some (.dodecad []) := by
  constructor <;> decide +kernel

theorem test_decode_hexad :
    decode [0x33, 0x00, 0x00, 0x02, 0xC1, 0x5A, 0x7E] = .ok (.hexad [0xC1, 0x5A], [0x7E]) ∧
      decodeTableWord 32 0x33000000 = some (.hexad []) := by
  constructor <;> decide +kernel

theorem test_decode_hexadInv :
    decode [0x34, 0x00, 0x00, 0x02, 0xC1, 0x5A, 0x7E] = .ok (.hexadInv [0xC1, 0x5A], [0x7E]) ∧
      decodeTableWord 32 0x34000000 = some (.hexadInv []) := by
  constructor <;> decide +kernel

theorem test_decode_f1 :
    decode [0x41, 0x00, 0x00, 0x02, 0xC1, 0x5A, 0x7E] = .ok (.f1 [0xC1, 0x5A], [0x7E]) ∧
      decodeTableWord 32 0x41000000 = some (.f1 []) := by
  constructor <;> decide +kernel

theorem test_decode_f2 :
    decode [0x42, 0x00, 0x00, 0x02, 0xC1, 0x5A, 0x7E] = .ok (.f2 [0xC1, 0x5A], [0x7E]) ∧
      decodeTableWord 32 0x42000000 = some (.f2 []) := by
  constructor <;> decide +kernel

theorem test_decode_f3 :
    decode [0x43, 0x00, 0x00, 0x02, 0xC1, 0x5A, 0x7E] = .ok (.f3 [0xC1, 0x5A], [0x7E]) ∧
      decodeTableWord 32 0x43000000 = some (.f3 []) := by
  constructor <;> decide +kernel

theorem test_decode_f4 :
    decode [0x44, 0x00, 0x00, 0x02, 0xC1, 0x5A, 0x7E] = .ok (.f4 [0xC1, 0x5A], [0x7E]) ∧
      decodeTableWord 32 0x44000000 = some (.f4 []) := by
  constructor <;> decide +kernel

theorem test_decode_f5 :
    decode [0x45, 0x00, 0x00, 0x02, 0xC1, 0x5A, 0x7E] = .ok (.f5 [0xC1, 0x5A], [0x7E]) ∧
      decodeTableWord 32 0x45000000 = some (.f5 []) := by
  constructor <;> decide +kernel

theorem test_decode_f6 :
    decode [0x46, 0x00, 0x00, 0x02, 0xC1, 0x5A, 0x7E] = .ok (.f6 [0xC1, 0x5A], [0x7E]) ∧
      decodeTableWord 32 0x46000000 = some (.f6 []) := by
  constructor <;> decide +kernel

/-- The payload of a table word lies in the words after the header's, each most significant byte first (R40, R61). -/
theorem test_decode_table_word_with_payload :
    decodeTableWord 96 0x000000130A0B0C0D41000005 = some (.f1 [0x0A, 0x0B, 0x0C, 0x0D, 0x00]) := by decide +kernel

/-- A length field of which every byte counts (R61): 65 792 payload bytes are asked for, two are there. -/
theorem test_decode_waits_for_the_whole_payload : decode [0x10, 0x01, 0x01, 0x00, 0xAA, 0xBB] = .error .incomplete := by
  decide +kernel

/-- The neighbours of the assigned ranges are reserved (R67, L2.6). -/
theorem test_decode_reserved :
    decode [0x00, 0, 0, 0] = .error (.illegalOpcode 0x00 []) ∧ decode [0x15, 0, 0, 0] = .error (.illegalOpcode 0x15 []) ∧
    decode [0x40, 0, 0, 0] = .error (.illegalOpcode 0x40 []) ∧ decode [0x47, 0, 0, 0] = .error (.illegalOpcode 0x47 []) ∧
    decode [0xFF, 0, 0, 3, 1, 2, 3, 9] = .error (.illegalOpcode 0xFF [9]) := by
  decide +kernel

/-! ### The fetch -/

/-- The word of a table row runs as the first instruction after reset: RD_KM with no key is `NOT_KEYED` (L2.6). -/
theorem test_fetch_word_runs_first : responses (step (State.reset.withFetchWord 32 0x13000000)) = [0x03, 0, 0, 0] := by
  decide +kernel

/-! ### Arithmetic and the combine functions (spec/95_test_vectors.md L2.1) -/

theorem test_rotl32 : rotl32 0xEA5BAEFC 7 = 0x2DD77E75 ∧ rotl32 0x80000001 31 = 0xC0000000 ∧
    rotl32 0x12345678 16 = 0x56781234 ∧ rotl32 0x80000001 0 = 0x80000001 := by
  decide +kernel

/-- The printed candidate tables have the sums that rule R190 gives for them. -/
theorem test_table_sums :
    (((List.range 256).map fun b => (sboxCast128.s1 (BitVec.ofNat 8 b)).toNat).sum % 2 ^ 32 = 0x25345D58 ∧
      ((List.range 256).map fun b => (sboxCast128.s2 (BitVec.ofNat 8 b)).toNat).sum % 2 ^ 32 = 0x4C663718) ∧
    ((List.range 256).map fun b => (sboxCast128.s3 (BitVec.ofNat 8 b)).toNat).sum % 2 ^ 32 = 0x27FCD808 ∧
      ((List.range 256).map fun b => (sboxCast128.s4 (BitVec.ofNat 8 b)).toNat).sum % 2 ^ 32 = 0xD1762DF8 := by
  decide +kernel

theorem test_f1_vector :
    (State.reset.answer (fAnswer (F1 sboxCast128) [0xDE, 0xAD, 0xBE, 0xEF, 0x0B, 0xAD, 0xF0, 0x0D, 0x00, 0x00, 0x00, 0x1F])).respPort =
      [0x00, 0x00, 0x00, 0x04, 0x4A, 0xD6, 0xA8, 0x7F] := by
  decide +kernel

theorem test_f1_fault : answerTo [0x41, 0x00, 0x00, 0x0B, 0x00, 0x00, 0x00, 0x00, 0x00, 0x00, 0x00, 0x00, 0x00, 0x00, 0x00] = [0x02, 0, 0, 0] := by
  decide +kernel

theorem test_f2_vector :
    (State.reset.answer (fAnswer (F2 sboxCast128) [0xDE, 0xAD, 0xBE, 0xEF, 0x0B, 0xAD, 0xF0, 0x0D, 0x00, 0x00, 0x00, 0x1F])).respPort =
      [0x00, 0x00, 0x00, 0x04, 0x20, 0x88, 0x95, 0x20] := by
  decide +kernel

theorem test_f2_fault : answerTo [0x42, 0x00, 0x00, 0x0D, 0x00, 0x00, 0x00, 0x00, 0x00, 0x00, 0x00, 0x00, 0x00, 0x00, 0x00, 0x00, 0x00] = [0x02, 0, 0, 0] := by
  decide +kernel

theorem test_f3_vector :
    (State.reset.answer (fAnswer (F3 sboxCast128) [0xDE, 0xAD, 0xBE, 0xEF, 0x0B, 0xAD, 0xF0, 0x0D, 0x00, 0x00, 0x00, 0x1F])).respPort =
      [0x00, 0x00, 0x00, 0x04, 0x53, 0x9E, 0x72, 0x00] := by
  decide +kernel

theorem test_f3_fault : answerTo [0x43, 0x00, 0x00, 0x0C, 0x00, 0x00, 0x00, 0x00, 0x00, 0x00, 0x00, 0x00, 0x00, 0x00, 0x01, 0x00] = [0x05, 0, 0, 0] := by
  decide +kernel

theorem test_f4_vector :
    (State.reset.answer (fAnswer (F4 sboxCast128) [0xDE, 0xAD, 0xBE, 0xEF, 0x0B, 0xAD, 0xF0, 0x0D, 0x00, 0x00, 0x00, 0x1F])).respPort =
      [0x00, 0x00, 0x00, 0x04, 0x53, 0x97, 0x52, 0x00] := by
  decide +kernel

theorem test_f4_fault : answerTo [0x44, 0x00, 0x00, 0x0C, 0x00, 0x00, 0x00, 0x00, 0x00, 0x00, 0x00, 0x00, 0xFF, 0xFF, 0xFF, 0xFF] = [0x05, 0, 0, 0] := by
  decide +kernel

theorem test_f5_vector :
    (State.reset.answer (fAnswer (F5 sboxCast128) [0xDE, 0xAD, 0xBE, 0xEF, 0x0B, 0xAD, 0xF0, 0x0D, 0x00, 0x00, 0x00, 0x1F])).respPort =
      [0x00, 0x00, 0x00, 0x04, 0xC8, 0x40, 0x26, 0x4D] := by
  decide +kernel

theorem test_f5_fault : answerTo [0x45, 0x00, 0x00, 0x0C, 0x00, 0x00, 0x00, 0x00, 0x00, 0x00, 0x00, 0x00, 0x80, 0x00, 0x00, 0x1F] = [0x05, 0, 0, 0] := by
  decide +kernel

theorem test_f6_vector :
    (State.reset.answer (fAnswer (F6 sboxCast128) [0xDE, 0xAD, 0xBE, 0xEF, 0x0B, 0xAD, 0xF0, 0x0D, 0x00, 0x00, 0x00, 0x1F])).respPort =
      [0x00, 0x00, 0x00, 0x04, 0xF1, 0xA5, 0x89, 0xE0] := by
  decide +kernel

theorem test_f6_fault : answerTo [0x46, 0x00, 0x00, 0x0C, 0x00, 0x00, 0x00, 0x00, 0x00, 0x00, 0x00, 0x00, 0x00, 0x00, 0x00, 0x20] = [0x05, 0, 0, 0] := by
  decide +kernel

/-! ### Key schedule (L2.2, L2.5) -/

theorem test_genSched_entries : tmEntry 0 = 0x5A827999 ∧ tmEntry 31 = 0xC6E60218 ∧ tmEntry 575 = 0x55FAB838 ∧
    trEntry 0 = 19 ∧ trEntry 11 = 14 ∧ trEntry 575 = 2 := by
  decide +kernel

theorem test_genSched_empty : answerTo [0x30, 0, 0, 2, 0, 7] = [0, 0, 0, 0] ∧ answerTo [0x30, 0, 0, 3, 1, 1, 1] = [2, 0, 0, 0] := by
  decide +kernel

theorem test_genRk_first_vector :
    (State.reset.answer (genRkAnswer sboxCast128 [0x01, 0x01])).respPort =
      [0x00, 0x00, 0x00, 0x30, 0xED, 0x8C, 0xAE, 0xB7, 0x7B, 0x23, 0x58, 0x34, 0x17, 0x72, 0x38, 0x58, 0xCF, 0x97, 0x94, 0x0C, 0x6B, 0x47, 0xCC, 0x2C, 0x2E, 0xCF, 0xD7, 0xD1] ++
      [0x00, 0x00, 0x00, 0x1F, 0x00, 0x00, 0x00, 0x0E, 0x00, 0x00, 0x00, 0x09, 0x00, 0x00, 0x00, 0x00, 0x00, 0x00, 0x00, 0x06, 0x00, 0x00, 0x00, 0x11] := by
  decide +kernel

theorem test_genRk_without_dodecads :
    (State.reset.answer (genRkAnswer zeroTables (0x01 :: 0x00 :: key2F))).respPort =
      [0x00, 0x00, 0x00, 0x30, 0x2C, 0x2D, 0x2E, 0x2F, 0x24, 0x25, 0x26, 0x27, 0x1C, 0x1D, 0x1E, 0x1F, 0x14, 0x15, 0x16, 0x17, 0x0C, 0x0D, 0x0E, 0x0F, 0x04, 0x05, 0x06, 0x07] ++
      [0x00, 0x00, 0x00, 0x03, 0x00, 0x00, 0x00, 0x0B, 0x00, 0x00, 0x00, 0x13, 0x00, 0x00, 0x00, 0x1B, 0x00, 0x00, 0x00, 0x03, 0x00, 0x00, 0x00, 0x0B] := by
  decide +kernel

theorem test_dodecad_vector :
    (State.reset.answer (dodecadAnswer sboxCast128
        (List.replicate 48 0 ++ bytes ((List.range 12).map tmEntry) ++ bytes ((List.range 12).map fun i => rotWord (trEntry i))))).respPort =
      [0x00, 0x00, 0x00, 0x30, 0xF8, 0x1B, 0x20, 0xBF, 0x2E, 0xCF, 0xD7, 0xD1, 0x48, 0xF7, 0x94, 0x4E, 0x6B, 0x47, 0xCC, 0x2C, 0x31, 0x26, 0x8C, 0x69, 0xCF, 0x97, 0x94, 0x0C] ++
      [0x81, 0x2E, 0xE8, 0xA0, 0x17, 0x72, 0x38, 0x58, 0xAE, 0xCF, 0x56, 0x26, 0x7B, 0x23, 0x58, 0x34, 0x2D, 0xE2, 0x65, 0xB1, 0xED, 0x8C, 0xAE, 0xB7] := by
  decide +kernel

theorem test_dodecad_bad_operand :
    answerTo ([0x32, 0, 0, 0x90] ++ List.replicate 96 0 ++ [0, 0, 1, 0] ++ List.replicate 44 0) = [0x05, 0, 0, 0] := by
  decide +kernel

/-- The first round of the installed keys of `00 01 .. 2F` with the candidate tables (L2.2). -/
theorem test_keyInit_first_round :
    (keyInitCommand sboxCast128 key2F State.reset).km.toList.take 6 =
      [0x45FC254C, 0x4D9FD227, 0x3C601516, 0xC881376E, 0x44AD3B56, 0x0DDA0805] ∧
    (keyInitCommand sboxCast128 key2F State.reset).kr.toList.take 6 = [30, 11, 14, 3, 27, 14] := by
  decide +kernel

/-- KEY_INIT with zero tables installs the key words themselves; bytes 48 and above are ignored (L2.2). -/
theorem test_keyInit_zero_tables :
    (keyInitCommand zeroTables (key2F ++ [0xFF, 0xFF]) State.reset).km.toList.take 7 =
      [0x2C2D2E2F, 0x24252627, 0x1C1D1E1F, 0x14151617, 0x0C0D0E0F, 0x04050607, 0x2C2D2E2F] := by
  decide +kernel

/-! ### Block kernel (L2.3, L2.5, L2.6) -/

/-- The operands of the spec's HEXAD example: the block `00 .. 17` and the round-0 keys of `00 .. 2F`. -/
def hexadOperands : List Byte :=
  [0x00, 0x01, 0x02, 0x03, 0x04, 0x05, 0x06, 0x07, 0x08, 0x09, 0x0A, 0x0B, 0x0C, 0x0D, 0x0E, 0x0F, 0x10, 0x11, 0x12, 0x13, 0x14, 0x15, 0x16, 0x17] ++
  [0x45, 0xFC, 0x25, 0x4C, 0x4D, 0x9F, 0xD2, 0x27, 0x3C, 0x60, 0x15, 0x16, 0xC8, 0x81, 0x37, 0x6E, 0x44, 0xAD, 0x3B, 0x56, 0x0D, 0xDA, 0x08, 0x05] ++
  [0x00, 0x00, 0x00, 0x1E, 0x00, 0x00, 0x00, 0x0B, 0x00, 0x00, 0x00, 0x0E, 0x00, 0x00, 0x00, 0x03, 0x00, 0x00, 0x00, 0x1B, 0x00, 0x00, 0x00, 0x0E]

theorem test_hexad_vector :
    (State.reset.answer (hexadAnswer (hexad sboxCast128) hexadOperands)).respPort =
      [0x00, 0x00, 0x00, 0x18, 0xB4, 0xB2, 0x79, 0xE1, 0x1F, 0xD4, 0xC3, 0xBB, 0x70, 0xB2, 0x5E, 0xF1, 0x75, 0xA8, 0x91, 0x32, 0x38, 0x05, 0xA6, 0xF0, 0x25, 0x57, 0x3F, 0x22] := by
  decide +kernel

theorem test_hexadInv_vector :
    (State.reset.answer (hexadAnswer (hexadInv sboxCast128) hexadOperands)).respPort =
      [0x00, 0x00, 0x00, 0x18, 0xEE, 0x80, 0x97, 0x8C, 0xAC, 0x6D, 0xF6, 0x21, 0x95, 0x5B, 0xEE, 0x81, 0x19, 0xFC, 0xFF, 0xA1, 0x5A, 0x7B, 0x77, 0xAB, 0x0A, 0x81, 0x5A, 0x86] := by
  decide +kernel

/-- The round keys of `00 01 .. 2F` as the spec prints them (L2.2), one round a line. -/
def km2F : Vector Word 72 :=
  storeOf 72 0 [
    0x45FC254C, 0x4D9FD227, 0x3C601516, 0xC881376E, 0x44AD3B56, 0x0DDA0805,
    0xCD5EB901, 0xE90236C8, 0xCC63B666, 0xBDAFB9AE, 0xEC3689FC, 0x30930D81,
    0x7E92A982, 0xCBF434A6, 0x7D1CF817, 0x6ECD99CA, 0x18799509, 0x87FA0B6E,
    0x4BF53C6F, 0x55361637, 0x23AEF225, 0x27390D97, 0x4E5B3510, 0xE0918F27,
    0xF5968ED4, 0x8D9947CE, 0xF19F8BDF, 0x8DDB782B, 0x40ACFEF9, 0xB4D52A1B,
    0xC00D913A, 0xF9AADB45, 0xFAB4D3A6, 0xDB9E134B, 0x1A4F578F, 0x2E2082B3,
    0x99B6DBE7, 0x83F2B49B, 0x7E079961, 0xA62EFBDB, 0x0D8BF1AC, 0xB5D6BC48,
    0xCD0FC242, 0xC5070237, 0x36D0C32A, 0x8DC33EC9, 0x0CDA6E79, 0x036F43DA,
    0x9CFAF72B, 0x415BD539, 0x903B5B56, 0x59ACF43C, 0x44FF01E6, 0xD0F352F8,
    0x47DED068, 0xBAD27F00, 0x9C624E5A, 0x41427E50, 0x8768CDF2, 0xAAC530CF,
    0x4CB1F84B, 0x89E5F01A, 0x32BEE4C7, 0x99727D26, 0x50918CAD, 0x3FFBB2A0,
    0xDDAC4AB6, 0xBCC2F054, 0x3DE053E0, 0xD536A3F0, 0x542BE5C1, 0x177DC53C]

/-- The rotation amounts of `00 01 .. 2F` as the spec prints them (L2.2). -/
def kr2F : Vector Rot 72 :=
  storeOf 72 0 [
    30, 11, 14, 3, 27, 14, 7, 9, 1, 11, 19, 8, 25, 17, 13, 21, 12, 27, 27, 4, 22, 17, 14, 5,
    10, 24, 16, 19, 31, 8, 25, 12, 17, 8, 27, 28, 23, 24, 1, 4, 1, 8, 7, 13, 30, 12, 21, 4,
    15, 29, 6, 12, 29, 2, 18, 3, 19, 10, 12, 8, 5, 1, 2, 0, 2, 28, 27, 20, 17, 4, 11, 16]

/-- All twelve rounds: the block `00 01 .. 17` under those keys (L2.3). -/
theorem test_encBlock_vector :
    (blockCommand (encBlock sboxCast128) block17 { keyed with km := km2F, kr := kr2F }).respPort =
      [0x00, 0x00, 0x00, 0x18, 0x58, 0x04, 0xA4, 0x99, 0x40, 0xF3, 0xC6, 0xC7, 0xBB, 0x92, 0x49, 0xEB, 0xDD, 0x28, 0x2B, 0x9B, 0x72, 0xEB, 0x47, 0xBB, 0x95, 0x3E, 0x03, 0x5C] := by
  decide +kernel

theorem test_hexad_bad_operand : answerTo ([0x33, 0, 0, 0x48] ++ List.replicate 71 0 ++ [0x20]) = [0x05, 0, 0, 0] := by
  decide +kernel

theorem test_hexadInv_bad_length : answerTo ([0x34, 0, 0, 0x49] ++ List.replicate 73 0) = [0x02, 0, 0, 0] := by
  decide +kernel

theorem test_encBlock_length_before_key :
    answerTo ([0x11, 0, 0, 0x17] ++ List.replicate 23 0) = [0x02, 0, 0, 0] ∧
    answerTo ([0x11, 0, 0, 0x18] ++ List.replicate 24 0) = [0x03, 0, 0, 0] := by
  decide +kernel

theorem test_decBlock_not_keyed : answerTo ([0x12, 0, 0, 0x18] ++ List.replicate 24 0) = [0x03, 0, 0, 0] := by
  decide +kernel

theorem test_decBlock_vector :
    (blockCommand (decBlock sboxCast128) block17 { keyed with km := km2F, kr := kr2F }).respPort =
      [0x00, 0x00, 0x00, 0x18, 0x01, 0xC6, 0xFD, 0x55, 0xC6, 0xDE, 0x99, 0x6C, 0x84, 0xF7, 0xA2, 0xC2, 0x4D, 0x88, 0xCE, 0x3B, 0x0D, 0x4F, 0x20, 0x43, 0xEF, 0x79, 0x9E, 0x9C] := by
  decide +kernel

theorem test_rdKm_zero_tables :
    ((readStoreCommand (fun s => s.km.toList) [] (keyInitCommand zeroTables key2F State.reset)).respPort.drop 4).take 12 =
      [0x00, 0x00, 0x01, 0x20, 0x2C, 0x2D, 0x2E, 0x2F, 0x24, 0x25, 0x26, 0x27] := by
  decide +kernel

theorem test_rdKr_zero_tables :
    ((readStoreCommand (fun s => s.kr.toList.map rotWord) [] (keyInitCommand zeroTables key2F State.reset)).respPort.drop 4).take 12 =
      [0x00, 0x00, 0x01, 0x20, 0x00, 0x00, 0x00, 0x03, 0x00, 0x00, 0x00, 0x0B] := by
  decide +kernel

theorem test_rdKm_bad_length : answerTo [0x13, 0, 0, 1, 0] = [0x02, 0, 0, 0] := by
  decide +kernel

theorem test_rdKr_not_keyed : answerTo [0x14, 0, 0, 0] = [0x03, 0, 0, 0] := by
  decide +kernel

/-! ### CTR mode (L2.4, with zero tables: a keystream block is its counter block) -/

/-- CTR_INIT and 26 zero bytes: the second block begins at byte 24. -/
theorem test_ctrInit_ctrEncrypt_zero_tables :
    let s := ctrDataCommand zeroTables (List.replicate 26 0) (ctrInitCommand zeroTables nonceAF State.reset)
    s.respPort.drop 4 = [0, 0, 0, 26] ++ nonceAF ++ [0, 0, 0, 0, 0, 0, 0, 0, 0xA0, 0xA1] ∧ s.ctr = 2 ∧ s.cur = 2 := by
  decide +kernel

theorem test_ctrInit_bad_length : answerTo ([0x20, 0, 0, 0x0F] ++ List.replicate 15 0) = [0x02, 0, 0, 0] := by
  decide +kernel

/-- After CTR_SEEK of `01 FF`, the counter field of the block is `00 00 00 00 00 00 01 FF`. -/
theorem test_ctrSeek_then_data_zero_tables :
    (ctrDataCommand zeroTables (List.replicate 24 0)
        (ctrSeekCommand [0x01, 0xFF] { live 7 3 with nonce := storeOf 16 0 nonceAF })).respPort =
      [0, 0, 0, 0, 0, 0, 0, 24] ++ nonceAF ++ [0, 0, 0, 0, 0, 0, 0x01, 0xFF] := by
  decide +kernel

/-- Seek operands of value 2^64 and of value 2^64 − 1 in nine bytes (exhaustion table, rows 8 and 9). -/
theorem test_ctrSeek_range :
    responses (exec (.ctrSeek [1, 0, 0, 0, 0, 0, 0, 0, 0]) (live (2 ^ 64) 24)) = [0x06, 0, 0, 0] ∧
    (ctrSeekCommand [0, 0xFF, 0xFF, 0xFF, 0xFF, 0xFF, 0xFF, 0xFF, 0xFF] (live (2 ^ 64) 24)).ctr = 2 ^ 64 - 1 := by
  decide +kernel

theorem test_ctrEncrypt_not_init : answerTo [0x21, 0, 0, 0] = [0x04, 0, 0, 0] ∧ answerTo [0x23, 0, 0, 9, 1, 0, 0, 0, 0, 0, 0, 0, 0] = [0x04, 0, 0, 0] := by
  decide +kernel

/-- The exhaustion table, rows 2 to 7: 25 bytes from the last block are refused; 23 bytes and then the last one are not;
after them one byte is refused and none is not. -/
theorem test_ctrDecrypt_exhaustion :
    responses (execCtrDecrypt (List.replicate 25 0) (live (2 ^ 64 - 1) 24)) = [0x07, 0, 0, 0] ∧
    (ctrDataCommand zeroTables (List.replicate 23 0) (live (2 ^ 64 - 1) 24)).ctr = 2 ^ 64 ∧
    responses (execCtrDecrypt [0, 0] (live (2 ^ 64) 23)) = [0x07, 0, 0, 0] ∧
    (ctrDataCommand zeroTables [0] (live (2 ^ 64) 23)).cur = 24 ∧
    responses (execCtrDecrypt [0] (live (2 ^ 64) 24)) = [0x07, 0, 0, 0] ∧
    responses (execCtrDecrypt [] (live (2 ^ 64) 24)) = [0x00, 0, 0, 0] := by
  decide +kernel

theorem test_ctrDecrypt_not_init : answerTo [0x22, 0, 0, 1, 0] = [0x04, 0, 0, 0] := by
  decide +kernel

/-! ### Text form (R76) -/

theorem test_text_form : commandText (.ctrSeek [0x01, 0xFF]) = some "CTR_SEEK ctr=01 FF" ∧
    commandText (.genRk [0x01, 0x01]) = some "GEN_RK r=1 d=1 key=-" ∧
    responseText (.error .badLength) = "FAULT BAD_LENGTH" := by
  decide +kernel

/-! ### Witnesses: states and operands that meet the hypotheses of an obligation together -/

theorem witness_DecodeOfEncode : (Instr.f6 [1, 2, 3]).WellFormed := by decide

theorem witness_EncodeOfDecoded : decode [0x14, 0, 0, 0, 7] = .ok (.rdKr [], [7]) := by decide +kernel

/-- A reserved opcode just below an assigned range, just above one, and the last of all. -/
theorem witness_ReservedOpcode :
    ((0x0F : Byte).toNat ∉ assignedOpcodes ∧ (0x15 : Byte).toNat ∉ assignedOpcodes ∧ (0xFF : Byte).toNat ∉ assignedOpcodes) ∧
    (State.reset.hostSend [0xFF, 0, 0, 1, 9, 0x13]).resetLine = false ∧
    (State.reset.hostSend [0xFF, 0, 0, 1, 9, 0x13]).cmdPort = 0xFF :: bytes24 [9].length ++ [9] ++ [0x13] := by
  decide +kernel

/-- A word sequence of whole words, and one of none. -/
theorem witness_WordsAndBytes : ([1, 2, 3, 4] : List Byte).length = 4 * 1 ∧ ([] : List Byte).length = 4 * 0 := by decide

/-- The least and the greatest block index. -/
theorem witness_CounterBytes : 0 < 2 ^ 64 ∧ 2 ^ 64 - 1 < 2 ^ 64 := by decide

theorem witness_StepRunsTheDecodedCommand :
    (State.reset.hostCommand (.f1 [5])).resetLine = false ∧
    decode (State.reset.hostCommand (.f1 [5])).cmdPort = .ok (.f1 [5], []) ∧ (Instr.f1 [5]).WellFormed := by
  decide +kernel

/-- Three header bytes, and a whole header with one payload byte too few. -/
theorem witness_IncompleteFrame :
    (State.reset.hostSend [0x11, 0, 0]).cmdPort.length < 4 ∧
    (State.reset.hostSend [0x11, 0, 0, 2, 9]).cmdPort.length <
      4 + beInt (((State.reset.hostSend [0x11, 0, 0, 2, 9]).cmdPort.drop 1).take 3) := by
  decide +kernel

theorem witness_ResetLine : (live 3 7).hostReset.resetLine = true := rfl

theorem witness_EveryFrameGetsExactlyOneResponse :
    (State.reset.hostSend [0x13, 0, 0, 0, 5]).resetLine = false ∧
    takeFrame (State.reset.hostSend [0x13, 0, 0, 0, 5]).cmdPort = some (⟨0x13, []⟩, [5]) := by
  decide +kernel

/-- RD_KM without a key: the frame is taken, and the response carries a fault. -/
theorem witness_FaultLeavesNoTrace :
    ∃ (s t : State) (f : Frame) (rest : List Byte) (status : Byte) (p : List Byte), s.resetLine = false ∧
      takeFrame s.cmdPort = some (f, rest) ∧ step s = .next t ∧
      t.respPort = s.respPort ++ (status :: bytes24 p.length ++ p) ∧ status ≠ 0 :=
  ⟨State.reset.hostSend [0x13, 0, 0, 0], _, ⟨0x13, []⟩, [], 0x03, [], rfl, by decide +kernel, rfl, by decide +kernel,
    by decide⟩

/-- Rows of the fault matrix with each fault that a command has, at boundary values, and with none. -/
theorem witness_FaultMatrix :
    (live 1 5).Inv ∧ faultOf (.encBlock []) (live 1 5) = some .badLength ∧
    State.reset.Inv ∧ faultOf (.rdKm []) State.reset = some .notKeyed ∧
    faultOf (.ctrDecrypt []) State.reset = some .ctrNotInit ∧
    faultOf (.f1 [0, 0, 0, 0, 0, 0, 0, 0, 0, 0, 0, 32]) State.reset = some .badOperand ∧
    faultOf (.f1 [0, 0, 0, 0, 0, 0, 0, 0, 0, 0, 0, 31]) State.reset = none ∧
    faultOf (.ctrSeek [1, 0, 0, 0, 0, 0, 0, 0, 0]) (live 1 5) = some .seekRange ∧
    faultOf (.ctrSeek [0, 255, 255, 255, 255, 255, 255, 255, 255]) (live 1 5) = none ∧
    (live (2 ^ 64) 23).Inv ∧ faultOf (.ctrEncrypt [0, 0]) (live (2 ^ 64) 23) = some .ctrExhausted ∧
    faultOf (.ctrEncrypt [0]) (live (2 ^ 64) 23) = none := by
  decide +kernel

/-- The last row of the matrix: a frame with a reserved opcode. -/
theorem witness_FaultMatrix_reserved :
    (State.reset.hostSend [0x40, 0, 0, 1, 9]).resetLine = false ∧
    takeFrame (State.reset.hostSend [0x40, 0, 0, 1, 9]).cmdPort = some (⟨0x40, [9]⟩, []) ∧
    (0x40 : Byte).toNat ∉ assignedOpcodes := by
  decide +kernel

/-- GEN_SCHED with no round, and one F command, answered `OK`. -/
theorem witness_ResponseLength :
    (∃ t, exec (.genSched [0, 7]) State.reset = .next t ∧ t.respPort = State.reset.respPort ++ (0x00 :: bytes24 0 ++ [])) ∧
    ∃ t p, exec (.f1 [0, 0, 0, 0, 0, 0, 0, 0, 0, 0, 0, 31]) State.reset = .next t ∧
      t.respPort = State.reset.respPort ++ (0x00 :: bytes24 p.length ++ p) :=
  ⟨⟨_, rfl, by decide +kernel⟩, _, bytes32 (F1 Config.sbox 0 0 31), rfl, rfl⟩

/-- Two engines fresh from reset whose unspecified registers differ, with a command waiting. -/
theorem witness_UnspecifiedResetContents :
    ∃ s₁ s₂ : State, s₁.keyValid = false ∧ s₂.keyValid = false ∧ s₁.ctrValid = false ∧ s₂.ctrValid = false ∧
      s₁.cmdPort = s₂.cmdPort ∧ s₁.resetLine = s₂.resetLine ∧ s₁.respPort = s₂.respPort ∧
      s₁.cmdPort ≠ [] ∧ s₁.km ≠ s₂.km ∧ s₁.ctr ≠ s₂.ctr :=
  ⟨State.reset.hostSend [0x13, 0, 0, 0],
    { State.reset.hostSend [0x13, 0, 0, 0] with km := Vector.replicate 72 1, ctr := 9 }, by decide +kernel⟩

theorem witness_ValidationCommands : 0x30 ≤ (Instr.genSched []).opcode.toNat ∧ 0x30 ≤ (Instr.f6 []).opcode.toNat := by
  decide

/-- States in use that keep the register invariant: in mid block, at a block boundary, exhausted. -/
theorem witness_Inv : (live 1 5).Inv ∧ (live 0 24).Inv ∧ (live (2 ^ 64) 24).Inv ∧ (live (2 ^ 64) 1).Inv := by
  decide +kernel

theorem witness_Inv_step : ∃ t, (live 1 5).Inv ∧ step ((live 1 5).hostCommand (.ctrSeek [])) = .next t :=
  ⟨_, by decide +kernel, rfl⟩

/-- In mid block, the keys and the buffer are what the commands leave. -/
theorem witness_KeysAndKeystream :
    midBlock.Inv ∧ midBlock.KeysDerived Config.sbox ∧ midBlock.BufferGenerated Config.sbox ∧
      midBlock.BufferCurrent Config.sbox ∧ ∃ t, step midBlock = .next t :=
  ⟨by decide +kernel, fun _ => ⟨[], rfl⟩, fun _ _ => ⟨[], rfl⟩, fun _ => rfl, _, rfl⟩

theorem witness_OnlyKeyInit :
    ∃ (i : Instr) (t : State), (∀ key, i ≠ .keyInit key) ∧ exec i midBlock = .next t ∧ midBlock.BufferCurrent Config.sbox :=
  ⟨.ctrEncrypt [7], _, by simp, rfl, fun _ => rfl⟩

/-- The least and the greatest rotation amount of the formula, and the highest bit. -/
theorem witness_Rotation : 1 ≤ (1 : Rot).toNat ∧ 1 ≤ (31 : Rot).toNat ∧ 0 < 32 ∧ 31 < 32 := by decide

/-- The least rotation word that is refused, at the first and the last place of each payload. -/
theorem witness_RotationOperandAbove31 :
    let f : List Byte := List.replicate 11 0 ++ [32]
    let h₀ : List Byte := List.replicate 51 0 ++ [32] ++ List.replicate 20 0
    let h₅ : List Byte := List.replicate 71 0 ++ [32]
    let d₀ : List Byte := List.replicate 99 0 ++ [32] ++ List.replicate 44 0
    let d₁₁ : List Byte := List.replicate 143 0 ++ [32]
    (f.length = 12 ∧ 31 < (wordAt f 8).toNat) ∧
    (h₀.length = 72 ∧ 31 < (wordAt h₀ (48 + 4 * 0)).toNat) ∧ (h₅.length = 72 ∧ 31 < (wordAt h₅ (48 + 4 * 5)).toNat) ∧
    (d₀.length = 144 ∧ 31 < (wordAt d₀ (96 + 4 * 0)).toNat) ∧ d₁₁.length = 144 ∧ 31 < (wordAt d₁₁ (96 + 4 * 11)).toNat := by
  decide +kernel

/-- Payloads one byte off the legal length of each validation command, and rotation words of 32 and of 2^32 − 1. -/
theorem witness_CommandRefusals :
    (List.replicate 11 (0 : Byte)).length ≠ 12 ∧ (List.replicate 13 (0 : Byte)).length ≠ 12 ∧
    31 < (wordAt (List.replicate 8 0 ++ [255, 255, 255, 255]) 8).toNat ∧
    (List.replicate 71 (0 : Byte)).length ≠ 72 ∧ (List.replicate 143 (0 : Byte)).length ≠ 144 ∧
    ([1] : List Byte).length ≠ 2 ∧ ([1, 1, 1] : List Byte).length ≠ 2 ∧ ([1] : List Byte).length < 2 := by
  decide +kernel

/-- A command that is answered `BAD_OPERAND`. -/
theorem witness_BadOperandAnswer :
    exec (.f3 (List.replicate 11 0 ++ [32])) State.reset =
      .next { State.reset with respPort := State.reset.respPort ++ [0x05, 0x00, 0x00, 0x00] } := rfl

/-- The last entry of the longest schedule, and the only entries of a shortest one. -/
theorem witness_GenSched : 780299 < 12 * (255 : Byte).toNat * (255 : Byte).toNat ∧ 11 < 12 * (1 : Byte).toNat * (1 : Byte).toNat := by
  decide +kernel

theorem witness_TemporarySchedule : (1 : Nat) * 3 ≤ 4 * 12 ∧ trEntry 0 = 19 ∧ trEntry 31 = 2 ∧ 31 < 32 := by decide +kernel

/-- A key one byte short of 48 and one of exactly 48 bytes. -/
theorem witness_Key :
    (List.replicate 47 (1 : Byte)).length + 1 = 48 ∧ (List.replicate 48 (1 : Byte)).length + 0 ≤ 48 ∧
      48 ≤ (List.replicate 48 (1 : Byte)).length := by
  decide +kernel

/-- The schedules that the engine generates are just long enough, for the most rounds and dodecads, for none of either,
and for the installed keys. -/
theorem witness_Extraction_schedule :
    (12 * 255 * 255 ≤ (genSched 255 255).1.length ∧ 12 * 255 * 255 ≤ (genSched 255 255).2.length) ∧
    (12 * 3 * 0 ≤ (genSched 3 0).1.length ∧ 12 * 0 * 3 ≤ (genSched 0 3).2.length) ∧
    (12 * 12 * 4 ≤ (genSched 12 4).1.length ∧ 12 * 12 * 4 ≤ (genSched 12 4).2.length) ∧ 11 < 12 ∧ 3 < 4 := by
  simp

theorem witness_Extraction : (254 : Nat) < 255 ∧ (0 : Nat) < 6 ∧ (5 : Nat) < 6 ∧ (1 : Nat) ≤ 2 := by decide

/-- A key installed; none; and a block of 24, 23 and 25 bytes. -/
theorem witness_BlockCommands :
    keyed.keyValid = true ∧ State.reset.keyValid = false ∧ block17.length = 24 ∧ (List.replicate 23 (0 : Byte)).length ≠ 24 ∧
      (List.replicate 25 (0 : Byte)).length ≠ 24 := by
  decide +kernel

theorem witness_EncryptionAndDecryption : keyed.keyValid = true ∧ block17.length = 24 := by decide +kernel

theorem witness_ReadCommands :
    keyed.keyValid = true ∧ State.reset.keyValid = false ∧ (71 : Nat) < 72 ∧ ([0] : List Byte) ≠ [] := by
  decide

theorem witness_CounterBlock : 2 ^ 64 - 1 < 2 ^ 64 ∧ 24 * 2 ^ 64 - 1 < 24 * 2 ^ 64 ∧ (15 : Nat) < 16 ∧ (7 : Nat) < 8 := by decide

theorem witness_CtrInit : (List.replicate 15 (0 : Byte)).length < 16 := by decide

/-- The greatest operand that seeks, in nine bytes, and the least that is refused. -/
theorem witness_Seek :
    (live (2 ^ 64) 24).ctrValid = true ∧ State.reset.ctrValid = false ∧
    beInt [0, 255, 255, 255, 255, 255, 255, 255, 255] < 2 ^ 64 ∧ 2 ^ 64 ≤ beInt [1, 0, 0, 0, 0, 0, 0, 0, 0] := by
  decide +kernel

/-- Data that ends exactly with the last keystream byte, data that ends in mid block, data that ends with a block, and
none. -/
theorem witness_CtrData :
    ((live (2 ^ 64) 23).Inv ∧ (live (2 ^ 64) 23).ctrValid = true ∧
      (live (2 ^ 64) 23).position + ([7] : List Byte).length ≤ 24 * 2 ^ 64) ∧
    ((live 1 5).Inv ∧ (live 1 5).ctrValid = true ∧ (live 1 5).position + block17.length ≤ 24 * 2 ^ 64 ∧
      ((live 1 5).position + block17.length) % 24 ≠ 0 ∧ block17 ≠ [] ∧ ¬ 23 < 24 - (live 1 5).cur) ∧
    ((live 0 24).Inv ∧ (live 0 24).ctrValid = true ∧ ((live 0 24).position + block17.length) % 24 = 0) ∧
    (live 1 5).position + ([] : List Byte).length ≤ 24 * 2 ^ 64 := by
  decide +kernel

/-- A buffer of the current keys, with data that runs into the next block: for the statement of the output and for the
statement of the splice. -/
theorem witness_OutputAndSplice :
    midBlock.Inv ∧ midBlock.ctrValid = true ∧ midBlock.BufferCurrent Config.sbox ∧
      midBlock.position + block17.length ≤ 24 * 2 ^ 64 ∧ 18 < 24 - midBlock.cur ∧ ¬ 19 < 24 - midBlock.cur :=
  ⟨by decide +kernel, rfl, fun _ => rfl, by decide +kernel, by decide +kernel, by decide +kernel⟩

/-- One byte too many, in the last block and in the exhausted state; data that ends with the last keystream byte; and an
empty command in the exhausted state, which completes. -/
theorem witness_Exhaustion :
    ((live (2 ^ 64) 23).Inv ∧ (live (2 ^ 64) 23).ctrValid = true ∧
      24 * 2 ^ 64 < (live (2 ^ 64) 23).position + ([0, 0] : List Byte).length) ∧
    ((live (2 ^ 64) 24).Inv ∧ 24 * 2 ^ 64 < (live (2 ^ 64) 24).position + ([0] : List Byte).length) ∧
    ((live (2 ^ 64) 23).position + ([0] : List Byte).length ≤ 24 * 2 ^ 64 ∧
      (live (2 ^ 64) 24).position + ([] : List Byte).length ≤ 24 * 2 ^ 64) ∧
    ∃ t u, exec (.ctrEncrypt []) (live (2 ^ 64) 24) = .next t ∧ exec (.ctrDecrypt [0, 0]) (live (2 ^ 64) 23) = .next u :=
  ⟨by decide +kernel, by decide +kernel, by decide +kernel, _, _, rfl, rfl⟩

theorem witness_CtrDataNeedsCtrInit :
    keyed.ctrValid = false ∧ (Instr.ctrSeek [3]) ∈ [Instr.ctrEncrypt [3], .ctrDecrypt [3], .ctrSeek [3]] := by
  decide +kernel

/-- Three chunks, one of them empty and one decrypted, over the end of a block. -/
theorem witness_Chunks :
    let chunks : List (Bool × List Byte) := [(true, [1, 2]), (true, []), (false, [3])]
    ∃ (s u : State) (out : List Byte), s.ctrValid = true ∧ exec (.ctrEncrypt (chunks.flatMap (·.2))) s = .next u ∧
      u.respPort = s.respPort ++ (0x00 :: bytes24 (chunks.flatMap (·.2)).length ++ out) :=
  ⟨live 1 22, _, (ctrXor Config.sbox [1, 2, 3] (live 1 22)).1, rfl, rfl, rfl⟩

/-- The last block, filled to its end: for the statement of the seek and for that of the way back. -/
theorem witness_SeekThenEncrypt :
    (live 3 24).ctrValid = true ∧ beInt (List.replicate 8 255) < 2 ^ 64 ∧
      24 * beInt (List.replicate 8 255) + block17.length ≤ 24 * 2 ^ 64 := by
  decide +kernel

end Sys2Proof.Tests
end

section
/-! Invariants of the registers (R23, R36): what a command can write, said once, and each invariant kept by every
such write, so by every step. -/

namespace Sys2Proof.Machine

open Sys2Proof

/-! ### What a command can write -/

@[simp] theorem ctrXor_km (S : Sbox) (data : List Byte) (s : State) : (ctrXor S data s).2.km = s.km := by
  rw [ctrXor_frame]

@[simp] theorem ctrXor_kr (S : Sbox) (data : List Byte) (s : State) : (ctrXor S data s).2.kr = s.kr := by
  rw [ctrXor_frame]

@[simp] theorem ctrXor_keyValid (S : Sbox) (data : List Byte) (s : State) :
    (ctrXor S data s).2.keyValid = s.keyValid := by
  rw [ctrXor_frame]

@[simp] theorem ctrXor_nonce (S : Sbox) (data : List Byte) (s : State) : (ctrXor S data s).2.nonce = s.nonce := by
  rw [ctrXor_frame]

@[simp] theorem ctrXor_ctrValid (S : Sbox) (data : List Byte) (s : State) :
    (ctrXor S data s).2.ctrValid = s.ctrValid := by
  rw [ctrXor_frame]

/-- `RegisterEffect i s u`: before it sends its one response, command `i` may turn the state `s` into `u`. Each write
carries the checks that the command has passed by then (R204: a fault writes nothing). -/
inductive RegisterEffect : Instr → State → State → Prop
  /-- A command that reads only, or that is refused. -/
  | unwritten {i : Instr} {s : State} : RegisterEffect i s s
  /-- KEY_INIT (R107). -/
  | keyInit (key : List Byte) {s : State} : RegisterEffect (.keyInit key) s (s.installKey Config.sbox key)
  /-- CTR_INIT with a whole nonce (R145). -/
  | ctrInit (p : List Byte) {s : State} (hlen : 16 ≤ p.length) :
      RegisterEffect (.ctrInit p) s
        (((s.installKey Config.sbox (p.drop 16)).setNonce (storeOf 16 0 p)).moveTo 0).setCtrValid
  /-- CTR_ENCRYPT or CTR_DECRYPT, within the keystream (R146, R147). -/
  | ctrData {i : Instr} (data : List Byte) {s : State} (hi : i = .ctrEncrypt data ∨ i = .ctrDecrypt data)
      (hvalid : s.ctrValid = true) (hroom : s.wouldExhaust data.length = false) :
      RegisterEffect i s (ctrXor Config.sbox data s).2
  /-- CTR_SEEK to a block index in range (R148). -/
  | ctrSeek (c : List Byte) {s : State} (hvalid : s.ctrValid = true) (hrange : beInt c < 2 ^ 64) :
      RegisterEffect (.ctrSeek c) s (s.moveTo (beInt c))

/-- ENC_BLOCK and DEC_BLOCK write no register (R127, R128). -/
theorem blockCommand_eq_send (f : Vector Word 72 → Vector Rot 72 → Vector Byte 24 → Vector Byte 24) (p : List Byte)
    (s : State) : ∃ frame, blockCommand f p s = s.send frame := by
  rw [blockCommand_eq]
  split_ifs <;> exact ⟨_, rfl⟩

/-- RD_KM and RD_KR write no register (R165, R166). -/
theorem readStoreCommand_eq_send (f : State → List Word) (p : List Byte) (s : State) :
    ∃ frame, readStoreCommand f p s = s.send frame := by
  rw [readStoreCommand_eq]
  split_ifs <;> exact ⟨_, rfl⟩

/-- The validation commands write no register (R178). -/
theorem answer_eq_send (s : State) (a : Except EngineFault (List Byte)) : ∃ frame, s.answer a = s.send frame := by
  obtain ⟨p, -, hp⟩ | ⟨f, -, hf⟩ := answer_eq s a
  · exact ⟨_, hp⟩
  · exact ⟨_, hf⟩

/-- From `s`, command `i` completes in `t`: a register effect, followed by one response. -/
def Completes (i : Instr) (s t : State) : Prop :=
  ∃ u frame, RegisterEffect i s u ∧ t = u.send frame

/-- A command that only sends completes without writing a register. -/
theorem completes_of_eq_send {i : Instr} {s t : State} (ht : ∃ frame, t = s.send frame) : Completes i s t := by
  obtain ⟨frame, rfl⟩ := ht
  exact ⟨s, frame, .unwritten, rfl⟩

/-- A data command is refused, or consumes its data within the keystream (R146). -/
theorem ctrDataCommand_completes {i : Instr} {data : List Byte} (hi : i = .ctrEncrypt data ∨ i = .ctrDecrypt data)
    (s : State) : Completes i s (ctrDataCommand Config.sbox data s) := by
  rw [ctrDataCommand_eq]
  split_ifs with hvalid hroom
  · exact ⟨s, _, .unwritten, rfl⟩
  · exact ⟨s, _, .unwritten, rfl⟩
  · exact ⟨_, _, .ctrData data hi (by simpa using hvalid) (by simpa using hroom), rfl⟩

/-- CTR_INIT is refused, or initialises the whole stream (R145). -/
theorem ctrInitCommand_completes (p : List Byte) (s : State) :
    Completes (.ctrInit p) s (ctrInitCommand Config.sbox p s) := by
  rw [ctrInitCommand_eq]
  split_ifs with hlen
  · exact ⟨s, _, .unwritten, rfl⟩
  · exact ⟨_, _, .ctrInit p (not_lt.mp hlen), rfl⟩

/-- CTR_SEEK is refused, or moves to a block index in range (R148). -/
theorem ctrSeekCommand_completes (c : List Byte) (s : State) :
    Completes (.ctrSeek c) s (ctrSeekCommand c s) := by
  rw [ctrSeekCommand_eq]
  split_ifs with hvalid hrange
  · exact ⟨s, _, .unwritten, rfl⟩
  · exact ⟨s, _, .unwritten, rfl⟩
  · exact ⟨_, _, .ctrSeek c (by simpa using hvalid) (not_le.mp hrange), rfl⟩

/-- Every command completes (R16, R66). -/
theorem exec_completes (i : Instr) (s : State) : ∃ t, exec i s = .next t ∧ Completes i s t := by
  cases i with
  | keyInit key => exact ⟨_, rfl, _, _, .keyInit key, rfl⟩
  | encBlock p => exact ⟨_, rfl, completes_of_eq_send (blockCommand_eq_send _ p s)⟩
  | decBlock p => exact ⟨_, rfl, completes_of_eq_send (blockCommand_eq_send _ p s)⟩
  | rdKm p => exact ⟨_, rfl, completes_of_eq_send (readStoreCommand_eq_send _ p s)⟩
  | rdKr p => exact ⟨_, rfl, completes_of_eq_send (readStoreCommand_eq_send _ p s)⟩
  | ctrInit p => exact ⟨_, rfl, ctrInitCommand_completes p s⟩
  | ctrEncrypt data => exact ⟨_, rfl, ctrDataCommand_completes (.inl rfl) s⟩
  | ctrDecrypt data => exact ⟨_, rfl, ctrDataCommand_completes (.inr rfl) s⟩
  | ctrSeek c => exact ⟨_, rfl, ctrSeekCommand_completes c s⟩
  | genSched p => exact ⟨_, rfl, completes_of_eq_send (answer_eq_send s _)⟩
  | genRk p => exact ⟨_, rfl, completes_of_eq_send (answer_eq_send s _)⟩
  | dodecad p => exact ⟨_, rfl, completes_of_eq_send (answer_eq_send s _)⟩
  | hexad p => exact ⟨_, rfl, completes_of_eq_send (answer_eq_send s _)⟩
  | hexadInv p => exact ⟨_, rfl, completes_of_eq_send (answer_eq_send s _)⟩
  | f1 p => exact ⟨_, rfl, completes_of_eq_send (answer_eq_send s _)⟩
  | f2 p => exact ⟨_, rfl, completes_of_eq_send (answer_eq_send s _)⟩
  | f3 p => exact ⟨_, rfl, completes_of_eq_send (answer_eq_send s _)⟩
  | f4 p => exact ⟨_, rfl, completes_of_eq_send (answer_eq_send s _)⟩
  | f5 p => exact ⟨_, rfl, completes_of_eq_send (answer_eq_send s _)⟩
  | f6 p => exact ⟨_, rfl, completes_of_eq_send (answer_eq_send s _)⟩

/-! ### From register effects to commands and steps -/

/-- A property that the two ports and the reset input have no part in. -/
def IgnoresPorts (P : State → Prop) : Prop :=
  ∀ (s : State) (cmd resp : List Byte) (line : Bool),
    P s → P { s with cmdPort := cmd, respPort := resp, resetLine := line }

/-- A property of the registers is kept by a command if its register effects keep it. -/
theorem exec_keeps {P : State → Prop} {i : Instr} {s t : State} (hports : IgnoresPorts P)
    (heffect : ∀ u, RegisterEffect i s u → P s → P u) (hs : P s) (hexec : exec i s = .next t) : P t := by
  obtain ⟨_, hnext, u, frame, hu, rfl⟩ := exec_completes i s
  obtain rfl : u.send frame = t := by simpa [hexec] using hnext.symm
  exact hports u u.cmdPort (u.respPort ++ frame) u.resetLine (heffect u hu hs)

/-- A property of the registers that holds at reset is kept by every step if the register effects keep it. -/
theorem step_keeps {P : State → Prop} (hports : IgnoresPorts P) (hreset : P State.reset)
    (heffect : ∀ i s u, RegisterEffect i s u → P s → P u) {s t : State} (hs : P s) (hstep : step s = .next t) :
    P t := by
  obtain ⟨-, h⟩ | ⟨-, -, h⟩ | ⟨f, rest, -, -, ⟨-, h⟩ | ⟨i, -, h⟩⟩ := step_cases s
  · obtain rfl : s.applyReset = t := by simpa [hstep] using h.symm
    exact hports State.reset [] s.respPort false hreset
  · obtain rfl : s = t := by simpa [hstep] using h.symm
    exact hs
  · obtain rfl : (s.setCmdPort rest).raiseFault .illegalOpcode = t := by simpa [hstep] using h.symm
    exact hports s rest _ s.resetLine hs
  · exact exec_keeps hports (heffect i _) (hports s rest s.respPort s.resetLine hs) (h.symm.trans hstep)

/-! ### The register invariant -/

theorem inv_ignoresPorts : IgnoresPorts State.Inv := fun _ _ _ _ h => h

theorem inv_reset : State.reset.Inv := fun h => nomatch h

/-- The streaming XOR keeps the register invariant while it stays within the keystream: the position it ends at bounds
the counter (R143, R146, R151). -/
theorem inv_ctrXor (S : Sbox) (data : List Byte) {s : State} (hroom : s.wouldExhaust data.length = false)
    (hinv : s.Inv) : (ctrXor S data s).2.Inv := by
  intro hvalid
  rw [ctrXor_ctrValid] at hvalid
  obtain ⟨hkey, hcur1, hcur24, hctr, hbuffered⟩ := hinv hvalid
  obtain ⟨hpos, hcur24', hbuffered', hcur1'⟩ := ctrXor_position S data s hcur24 hbuffered
  have hend : s.position + data.length ≤ 24 * 2 ^ 64 := by
    simpa [hroom] using wouldExhaust_iff s data.length hcur24 hctr hbuffered
  have hcur : 1 ≤ (ctrXor S data s).2.cur := by
    cases data with
    | nil => exact hcur1
    | cons b data => exact hcur1' (List.cons_ne_nil b data)
  have hctr' : (ctrXor S data s).2.ctr ≤ 2 ^ 64 := by
    rw [← hpos, State.position] at hend
    omega
  exact ⟨by rwa [ctrXor_keyValid], hcur, hcur24', hctr', hbuffered'⟩

theorem inv_effect (i : Instr) (s u : State) (heffect : RegisterEffect i s u) (hinv : s.Inv) : u.Inv := by
  cases heffect with
  | unwritten => exact hinv
  | keyInit key =>
    intro hvalid
    obtain ⟨-, hregs⟩ := hinv (by simpa using hvalid)
    simpa using hregs
  | ctrInit p => simp [State.Inv]
  | ctrData data _ _ hroom => exact inv_ctrXor _ data hroom hinv
  | ctrSeek c hvalid hrange =>
    obtain ⟨hkey, -⟩ := hinv hvalid
    exact fun _ => ⟨hkey, by simp, by simp, hrange.le, by simp⟩

/-- Settles O17: the invariant holds at reset and every register effect keeps it. -/
theorem everyStepKeepsTheRegisterInvariant : Obligations.EveryStepKeepsTheRegisterInvariant :=
  ⟨fun _ _ hinv hstep => step_keeps inv_ignoresPorts inv_reset inv_effect hinv hstep,
    fun s stream hinv =>
      ⟨inv_ignoresPorts s (s.cmdPort ++ stream) s.respPort s.resetLine hinv,
        inv_ignoresPorts s s.cmdPort s.respPort true hinv,
        inv_ignoresPorts s s.cmdPort [] s.resetLine hinv⟩⟩

/-! ### Genuine keys and keystream -/

/-- The invariants of R23 and R36 together. The register invariant is needed: a live stream has a key, so a refill uses
derived round keys. -/
def State.Genuine (S : Sbox) (s : State) : Prop :=
  s.Inv ∧ s.KeysDerived S ∧ s.BufferGenerated S

theorem genuine_ignoresPorts (S : Sbox) : IgnoresPorts (State.Genuine S) := fun _ _ _ _ h => h

theorem genuine_reset (S : Sbox) : State.reset.Genuine S :=
  ⟨inv_reset, (fun h => nomatch h), fun h => nomatch h⟩

/-- Settles O16: both flags are 0 at reset. -/
theorem invariantsHoldAtReset : Obligations.InvariantsHoldAtReset :=
  genuine_reset Config.sbox

theorem keysDerived_effect {i : Instr} {s u : State} (heffect : RegisterEffect i s u)
    (hkeys : s.KeysDerived Config.sbox) : u.KeysDerived Config.sbox := by
  cases heffect with
  | unwritten => exact hkeys
  | keyInit key => exact fun _ => ⟨key, by simp⟩
  | ctrInit p => exact fun _ => ⟨p.drop 16, by simp⟩
  | ctrData data => simpa [State.KeysDerived] using hkeys
  | ctrSeek c => exact hkeys

/-- An empty buffer asks nothing of its contents (R30). -/
theorem bufferGenerated_of_empty {S : Sbox} {s : State} (hempty : s.cur = 24) : s.BufferGenerated S :=
  fun _ hcur => absurd hempty hcur.ne

/-- After the streaming XOR the buffer is what is left of the old one, or a block made under the installed keys. -/
theorem bufferGenerated_ctrXor {S : Sbox} (data : List Byte) {s : State} (hvalid : s.ctrValid = true)
    (hgen : s.Genuine S) : (ctrXor S data s).2.BufferGenerated S := by
  obtain ⟨hinv, hkeys, hbuffer⟩ := hgen
  intro _ hcur
  obtain ⟨hctr, hks, hle⟩ | ⟨-, hks⟩ := ctrXor_buffer S data s
  · obtain ⟨key, hold⟩ := hbuffer hvalid (hle.trans_lt hcur)
    exact ⟨key, by rw [hks, hctr, ctrXor_nonce, hold]⟩
  · obtain ⟨hkeyValid, -⟩ := hinv hvalid
    obtain ⟨key, hkey⟩ := hkeys hkeyValid
    exact ⟨key, by rw [hks, ctrXor_nonce, ← hkey]⟩

theorem genuine_effect (i : Instr) (s u : State) (heffect : RegisterEffect i s u) (hgen : s.Genuine Config.sbox) :
    u.Genuine Config.sbox := by
  have ⟨hinv, hkeys, hbuffer⟩ := hgen
  refine ⟨inv_effect i s u heffect hinv, keysDerived_effect heffect hkeys, ?_⟩
  cases heffect with
  | unwritten => exact hbuffer
  | keyInit key => simpa [State.BufferGenerated] using hbuffer
  | ctrInit p => exact bufferGenerated_of_empty (by simp)
  | ctrData data _ hvalid => exact bufferGenerated_ctrXor data hvalid hgen
  | ctrSeek c => exact bufferGenerated_of_empty (by simp)

/-- Settles O18: keys, buffer and register invariant are kept together by every register effect. -/
theorem everyStepKeepsKeysAndKeystreamGenuine : Obligations.EveryStepKeepsKeysAndKeystreamGenuine := by
  intro s t hinv hkeys hbuffer hstep
  obtain ⟨-, hkeys', hbuffer'⟩ :=
    step_keeps (genuine_ignoresPorts _) (genuine_reset _) genuine_effect ⟨hinv, hkeys, hbuffer⟩ hstep
  exact ⟨hkeys', hbuffer'⟩

/-! ### A current buffer -/

theorem bufferCurrent_ignoresPorts (S : Sbox) : IgnoresPorts (State.BufferCurrent S) := fun _ _ _ _ h => h

/-- An empty buffer is current (R30). -/
theorem bufferCurrent_of_empty {S : Sbox} {s : State} (hempty : s.cur = 24) : s.BufferCurrent S :=
  fun hcur => absurd hempty hcur.ne

/-- The streaming XOR leaves a current buffer current: it writes no key and no nonce (R144). -/
theorem bufferCurrent_ctrXor {S : Sbox} (data : List Byte) {s : State} (hcurrent : s.BufferCurrent S) :
    (ctrXor S data s).2.BufferCurrent S := by
  intro hcur
  rw [ctrXor_km, ctrXor_kr, ctrXor_nonce]
  obtain ⟨hctr, hks, hle⟩ | ⟨-, hks⟩ := ctrXor_buffer S data s
  · rw [hks, hctr]
    exact hcurrent (hle.trans_lt hcur)
  · exact hks

/-- Settles O19: of the register effects only KEY_INIT's replaces the round keys under a buffer that is not empty. -/
theorem onlyKeyInitMakesKeystreamStale : Obligations.OnlyKeyInitMakesKeystreamStale := by
  intro i s t hnotKeyInit hexec hcurrent
  refine exec_keeps (bufferCurrent_ignoresPorts _) (fun u heffect hcurrent => ?_) hcurrent hexec
  cases heffect with
  | unwritten => exact hcurrent
  | keyInit key => exact absurd rfl (hnotKeyInit key)
  | ctrInit p => exact bufferCurrent_of_empty (by simp)
  | ctrData data => exact bufferCurrent_ctrXor data hcurrent
  | ctrSeek c => exact bufferCurrent_of_empty (by simp)

end Sys2Proof.Machine
end

section
/-! Byte order (R41, R42) and the step of a decoded command (R50, R60, R66). -/

namespace Sys2Proof.Machine

open Sys2Proof

/-! ### Words and byte sequences (R41) -/

@[simp] theorem byte0_be32 (b0 b1 b2 b3 : Byte) : byte0 (be32 b0 b1 b2 b3) = b0 :=
  BitVec.eq_of_toNat_eq (by rw [byte0, BitVec.extractLsb'_toNat, be32_toNat]; omega)

@[simp] theorem byte1_be32 (b0 b1 b2 b3 : Byte) : byte1 (be32 b0 b1 b2 b3) = b1 :=
  BitVec.eq_of_toNat_eq (by rw [byte1, BitVec.extractLsb'_toNat, be32_toNat]; omega)

@[simp] theorem byte2_be32 (b0 b1 b2 b3 : Byte) : byte2 (be32 b0 b1 b2 b3) = b2 :=
  BitVec.eq_of_toNat_eq (by rw [byte2, BitVec.extractLsb'_toNat, be32_toNat]; omega)

@[simp] theorem byte3_be32 (b0 b1 b2 b3 : Byte) : byte3 (be32 b0 b1 b2 b3) = b3 :=
  BitVec.eq_of_toNat_eq (by rw [byte3, BitVec.extractLsb'_toNat, be32_toNat]; omega)

/-- The bytes of a word made from four bytes are those bytes (R41). -/
theorem bytes32_be32 (b0 b1 b2 b3 : Byte) : bytes32 (be32 b0 b1 b2 b3) = [b0, b1, b2, b3] := by
  simp [bytes32]

/-- A word read from inside a byte sequence and written again is the four bytes that stand there (R41, R71). -/
theorem bytes32_wordAt {s : List Byte} {off : Nat} (h : off + 4 ≤ s.length) :
    bytes32 (wordAt s off) = (s.drop off).take 4 := by
  have hinside : ∀ k, k < off + 4 → k < s.length := fun k hk => hk.trans_le h
  rw [wordAt, bytes32_be32]
  apply List.ext_getElem
  · simp
    omega
  · intro j hj _
    have hj4 : j < 4 := hj
    interval_cases j <;> simp [hinside]

/-- The first of `n + 1` words stands at the offset, the others four bytes further on (R41). -/
theorem wordsAt_succ_toList (n : Nat) (s : List Byte) (off : Nat) :
    (wordsAt (n + 1) s off).toList = wordAt s off :: (wordsAt n s (off + 4)).toList := by
  simp only [wordsAt, Vector.toList_ofFn, List.ofFn_succ]
  congr 2
  funext j
  rw [Fin.val_succ, Nat.mul_succ, Nat.add_assoc off, Nat.add_comm 4]

/-- The same of `n` words in a row (R41). -/
theorem bytes_wordsAt {n : Nat} {s : List Byte} {off : Nat} (h : off + 4 * n ≤ s.length) :
    bytes (wordsAt n s off).toList = (s.drop off).take (4 * n) := by
  induction n generalizing off with
  | zero => simp [wordsAt, Vector.toList_ofFn]
  | succ n ih =>
    rw [wordsAt_succ_toList, bytes_cons, bytes32_wordAt (by omega), ih (by omega), ← List.drop_drop,
      ← List.take_add]
    congr 1
    omega

/-- Settles O5: both directions word by word, the values of `be32` from its four bytes. -/
theorem wordsAndBytesAreInverse : Obligations.WordsAndBytesAreInverse := by
  refine ⟨fun b0 b1 b2 b3 => ⟨be32_toNat b0 b1 b2 b3, bytes32_be32 b0 b1 b2 b3⟩,
    fun n ws before after => wordsAt_bytes ws before after, fun n s hlen => ?_⟩
  rw [bytes_wordsAt (by omega), List.drop_zero, ← hlen, List.take_length]

/-! ### Big-endian integers (R42) -/

/-- A further byte is the new least significant digit to base 256. -/
theorem beInt_append_singleton (bs : List Byte) (b : Byte) : beInt (bs ++ [b]) = 256 * beInt bs + b.toNat := by
  simp [beInt]

theorem beInt_zero_cons (bs : List Byte) : beInt (0 :: bs) = beInt bs := rfl

theorem beInt_replicate_zero_append (k : Nat) (bs : List Byte) : beInt (List.replicate k 0 ++ bs) = beInt bs := by
  induction k with
  | zero => rfl
  | succ k ih => rw [List.replicate_succ, List.cons_append, beInt_zero_cons, ih]

/-- The last `k` digits of `n` to base 256, the most significant first, are `n` modulo `256 ^ k`. -/
theorem beInt_digits (k n : Nat) :
    beInt (List.ofFn fun j : Fin k => BitVec.ofNat 8 (n / 256 ^ (k - 1 - j.val))) = n % 256 ^ k := by
  induction k generalizing n with
  | zero => simp [beInt, Nat.mod_one]
  | succ k ih =>
    have hprefix : ∀ j : Fin k, n / 256 ^ (k - j.val) = n / 256 / 256 ^ (k - 1 - j.val) := fun j => by
      rw [Nat.div_div_eq_div_mul, ← Nat.pow_succ']
      congr 2
      omega
    simp only [List.ofFn_succ_last, beInt_append_singleton, Fin.val_castSucc, Fin.val_last, Nat.add_sub_cancel,
      hprefix, ih, Nat.sub_self, pow_zero, Nat.div_one, BitVec.toNat_ofNat, Nat.reducePow]
    rw [pow_succ' 256 k, Nat.mod_mul, Nat.add_comm]

/-- The counter field reads back as the counter written (R42). -/
theorem beInt_bytes64 {n : Nat} (h : n < 2 ^ 64) : beInt (bytes64 n).toList = n := by
  rw [bytes64, Vector.toList_ofFn, beInt_digits 8 n]
  exact Nat.mod_eq_of_lt h

/-- Settles O6: the counter field is eight digits to base 256, and reading goes digit by digit. -/
theorem counterBytesAreBigEndian : Obligations.CounterBytesAreBigEndian :=
  ⟨fun _ h => beInt_bytes64 h, beInt_replicate_zero_append, beInt_append_singleton, rfl, rfl, rfl⟩

/-! ### A step (R50, R60, R66) -/

/-- With reset low, a command read from the port is what a step has to do, its frame consumed. -/
theorem pending_of_decode {s : State} {i : Instr} {rest : List Byte} (hline : s.resetLine = false)
    (hdecode : decode s.cmdPort = .ok (i, rest)) : s.pending = .command i (s.setCmdPort rest) := by
  simp [State.pending, hline, hdecode]

/-- Settles O7: the command read from the port is the pending one. The bound on its payload plays
no part in it. -/
theorem stepRunsTheDecodedCommand : Obligations.StepRunsTheDecodedCommand := by
  intro s i rest hline hdecode _
  rw [step, pending_of_decode hline hdecode, State.setCmdPort]

end Sys2Proof.Machine
end

section
/-! Commands and their frames (R60, R61, R65, R67), and the step of an incomplete and of a reserved frame (R66, R67). -/

namespace Sys2Proof.Machine

open Sys2Proof

/-! ### Decoding a frame (R60, R61, R65) -/

/-- A command is decoded exactly from a complete frame whose opcode and payload select it (R60, R65). -/
theorem decode_eq_ok_iff {stream rest : List Byte} {i : Instr} :
    decode stream = .ok (i, rest) ↔ ∃ f, takeFrame stream = some (f, rest) ∧ commandOf f.opc f.payload = some i := by
  cases htake : takeFrame stream with
  | none => simp [decode, htake]
  | some fr =>
    obtain ⟨f, rest'⟩ := fr
    cases hcommand : commandOf f.opc f.payload <;> simp [decode, htake, hcommand, and_comm]

/-- A complete frame with a reserved opcode is refused by name, and the bytes after it are told (R67). -/
theorem decode_reserved {stream rest : List Byte} {f : Frame} (htake : takeFrame stream = some (f, rest))
    (hreserved : commandOf f.opc f.payload = none) : decode stream = .error (.illegalOpcode f.opc rest) := by
  simp [decode, htake, hreserved]

/-- Settles O1: the frame is taken whole, and its opcode selects the command. -/
theorem decodeOfEncodeGivesTheCommand : Obligations.DecodeOfEncodeGivesTheCommand := fun i rest hwf =>
  decode_eq_ok_iff.mpr ⟨⟨i.opcode, i.payload⟩, takeFrame_frameBytes i.opcode i.payload rest hwf, commandOf_opcode i⟩

/-- Settles O2: the frame taken is the stream's beginning, and it has the command's opcode and payload. -/
theorem encodeOfDecodedCommandGivesTheFrame : Obligations.EncodeOfDecodedCommandGivesTheFrame := by
  intro stream rest i hdecode
  obtain ⟨f, htake, hcommand⟩ := decode_eq_ok_iff.mp hdecode
  obtain ⟨hopcode, hpayload⟩ := commandOf_eq_some hcommand
  rw [encode, Instr.WellFormed, hopcode, hpayload]
  exact takeFrame_eq_some htake

/-- Settles O3: the four command frames are `encode` of their commands, the last one is taken whole and refused. -/
theorem framesWrittenFromTheSpecDecode : Obligations.FramesWrittenFromTheSpecDecode :=
  ⟨decodeOfEncodeGivesTheCommand (.keyInit [0xAA]) [] (by decide),
    decodeOfEncodeGivesTheCommand (.ctrSeek [0x01, 0xFF]) [] (by decide),
    decodeOfEncodeGivesTheCommand (.genRk [0x01, 0x01]) [0x13] (by decide),
    decodeOfEncodeGivesTheCommand
      (.f6 [0xF8, 0x1B, 0x20, 0xBF, 0x1D, 0xDF, 0x99, 0x84, 0x00, 0x00, 0x00, 0x0E]) [] (by decide),
    decode_reserved (takeFrame_frameBytes 0x99 [0xDE] [0x14] (by decide)) rfl⟩

/-! ### Incomplete frames (R66, R233) -/

/-- No frame is taken exactly when the header or the payload is incomplete (R66). -/
theorem takeFrame_eq_none_iff (stream : List Byte) :
    takeFrame stream = none ↔
      stream.length < 4 ∨ stream.length < 4 + beInt ((stream.drop 1).take 3) := by
  match stream with
  | [] | [_] | [_, _] | [_, _, _] => simp [takeFrame]
  | opc :: l2 :: l1 :: l0 :: tail =>
    simp only [takeFrame, ite_eq_left_iff, not_lt, reduceCtorEq, imp_false, not_le, List.length_cons,
      List.drop_succ_cons, List.drop_zero, List.take_succ_cons, List.take_zero]
    omega

/-- With reset low and no complete frame, a step waits (R66). -/
theorem step_of_takeFrame_none {s : State} (hline : s.resetLine = false) (htake : takeFrame s.cmdPort = none) :
    step s = .next s := by
  simp [step, State.pending, hline, decode, htake]

/-- Settles O8: an incomplete frame is not taken. -/
theorem incompleteFrameIsWaitedFor : Obligations.IncompleteFrameIsWaitedFor := fun s hline hshort =>
  step_of_takeFrame_none hline ((takeFrame_eq_none_iff s.cmdPort).mpr hshort)

/-! ### Reserved opcodes (R67) -/

/-- With reset low and a complete frame with a reserved opcode, a step consumes the frame and refuses it (R67). -/
theorem step_reserved {s : State} {f : Frame} {rest : List Byte} (hline : s.resetLine = false)
    (htake : takeFrame s.cmdPort = some (f, rest)) (hreserved : commandOf f.opc f.payload = none) :
    step s = .next ((s.setCmdPort rest).raiseFault .illegalOpcode) := by
  simp [step, State.pending, hline, decode_reserved htake hreserved]

/-- The reserved opcodes are the five ranges between and after the assigned ones (R67). -/
theorem reserved_eq_ranges :
    (List.range 256).filter (fun n => n ∉ assignedOpcodes) =
      List.range 0x10 ++ List.range' 0x15 11 ++ List.range' 0x24 12 ++ List.range' 0x35 12 ++ List.range' 0x47 185 := by
  decide +kernel

/-- Settles O4: the reserved opcodes are counted range by range, and a frame with one is taken whole and refused. -/
theorem reservedOpcodeIsRefusedWhole : Obligations.ReservedOpcodeIsRefusedWhole := by
  refine ⟨reserved_eq_ranges, by rw [reserved_eq_ranges]; simp, commandOf_eq_none_iff, ?_⟩
  intro s opc payload rest hreserved hlen hline hport
  have htake : takeFrame s.cmdPort = some (⟨opc, payload⟩, rest) := by
    rw [hport]
    exact takeFrame_frameBytes opc payload rest hlen
  exact step_reserved hline htake ((commandOf_eq_none_iff opc payload).mpr hreserved)

end Sys2Proof.Machine
end

section
/-! The one response of a frame and its length (R62, R66, R74, R200). -/

namespace Sys2Proof.Machine

open Sys2Proof

/-! ### What an answer is -/

/-- Two states with the same bytes on both ports and the same reset input. -/
def SamePorts (u s : State) : Prop :=
  u.cmdPort = s.cmdPort ∧ u.respPort = s.respPort ∧ u.resetLine = s.resetLine

theorem SamePorts.refl (s : State) : SamePorts s s := ⟨rfl, rfl, rfl⟩

/-- `Answers n s t`: from `s`, one frame is answered in `t`, with `OK` and `n` payload bytes after writing registers
only, or with a fault and nothing written (R16, R62, R204). -/
inductive Answers (n : Nat) (s : State) : State → Prop
  | ok {u : State} {p : List Byte} (hports : SamePorts u s) (hlen : p.length = n) : Answers n s (u.respond p)
  | fault (f : EngineFault) : Answers n s (s.raiseFault f)

/-- An answer leaves the command port and the reset input, and appends one response frame (R62, R66, R200). -/
theorem Answers.response {n : Nat} {s t : State} (h : Answers n s t) :
    t.cmdPort = s.cmdPort ∧ t.resetLine = s.resetLine ∧ ∃ status p,
      t.respPort = s.respPort ++ responseFrame status p ∧
        ((status = 0 ∧ p.length = n) ∨ (status ≠ 0 ∧ status.toNat ≤ 7 ∧ p = [])) := by
  cases h with
  | @ok u p hports hlen =>
    obtain ⟨hcmd, hresp, hline⟩ := hports
    exact ⟨hcmd, hline, statusOk, p, by simp [State.respond, hresp], .inl ⟨rfl, hlen⟩⟩
  | fault f =>
    obtain ⟨hne, hle⟩ := status_range f
    exact ⟨rfl, rfl, f.status, [], rfl, .inr ⟨hne, hle, rfl⟩⟩

/-! ### Every command answers, with the length of its row (R74) -/

/-- ENC_BLOCK and DEC_BLOCK answer one block (R127, R128). -/
theorem blockCommand_answers (f : Vector Word 72 → Vector Rot 72 → Vector Byte 24 → Vector Byte 24) (p : List Byte)
    (s : State) : Answers 24 s (blockCommand f p s) := by
  rw [blockCommand_eq]
  split_ifs
  · exact .fault _
  · exact .fault _
  · exact .ok (.refl s) (by simp)

/-- RD_KM and RD_KR answer 72 words (R165, R166). -/
theorem readStoreCommand_answers {store : State → List Word} (hstore : ∀ s, (store s).length = 72) (p : List Byte)
    (s : State) : Answers 288 s (readStoreCommand store p s) := by
  rw [readStoreCommand_eq]
  split_ifs
  · exact .fault _
  · exact .fault _
  · exact .ok (.refl s) (by simp [hstore])

/-- KEY_INIT writes no port (R107). -/
theorem installKey_samePorts (S : Sbox) (key : List Byte) (s : State) : SamePorts (s.installKey S key) s := by
  simp [SamePorts]

/-- The streaming XOR writes no port (R146). -/
theorem ctrXor_samePorts (S : Sbox) (data : List Byte) (s : State) : SamePorts (ctrXor S data s).2 s := by
  rw [ctrXor_frame]
  exact .refl s

/-- CTR_ENCRYPT and CTR_DECRYPT answer as many bytes as they are given (R146). -/
theorem ctrDataCommand_answers (S : Sbox) (data : List Byte) (s : State) :
    Answers data.length s (ctrDataCommand S data s) := by
  rw [ctrDataCommand_eq]
  split_ifs
  · exact .fault _
  · exact .fault _
  · exact .ok (ctrXor_samePorts S data s) (ctrXor_length S data s)

/-- CTR_INIT answers no payload (R145). -/
theorem ctrInitCommand_answers (S : Sbox) (p : List Byte) (s : State) : Answers 0 s (ctrInitCommand S p s) := by
  rw [ctrInitCommand_eq]
  split_ifs
  · exact .fault _
  · exact .ok ⟨rfl, rfl, rfl⟩ rfl

/-- CTR_SEEK answers no payload (R148). -/
theorem ctrSeekCommand_answers (c : List Byte) (s : State) : Answers 0 s (ctrSeekCommand c s) := by
  rw [ctrSeekCommand_eq]
  split_ifs
  · exact .fault _
  · exact .fault _
  · exact .ok ⟨rfl, rfl, rfl⟩ rfl

/-- A validation command answers as many bytes as its answer has (R178). -/
theorem answer_answers {n : Nat} {a : Except EngineFault (List Byte)} (hlen : ∀ q, a = .ok q → q.length = n)
    (s : State) : Answers n s (s.answer a) := by
  obtain ⟨q, hq, h⟩ | ⟨f, -, h⟩ := answer_eq s a
  · exact h ▸ .ok (.refl s) (hlen q hq)
  · exact h ▸ .fault f

/-- Eight bytes for each masking word with its rotation amount (R74). -/
theorem pairBytes_length {t : List Word × List Rot} {n : Nat} (hkm : t.1.length = n) (hkr : t.2.length = n) :
    (pairBytes t).length = 8 * n := by
  simp only [pairBytes, List.length_append, bytes_length, List.length_map, hkm, hkr]
  omega

theorem genSchedAnswer_length {p q : List Byte} (h : genSchedAnswer p = .ok q) :
    q.length = 96 * (p.getD 0 0).toNat * (p.getD 1 0).toNat := by
  by_cases hlegal : legalLen .params p.length
  · simp only [genSchedAnswer, operandsP, hlegal, if_true, Except.ok.injEq] at h
    rw [← h, pairBytes_length (genSched_fst_length _ _) (genSched_snd_length _ _)]
    ring
  · simp [genSchedAnswer, operandsP, hlegal] at h

theorem genRkAnswer_length {S : Sbox} {p q : List Byte} (h : genRkAnswer S p = .ok q) :
    q.length = 48 * (p.getD 0 0).toNat := by
  by_cases hlegal : legalLen .paramsKey p.length
  · simp only [genRkAnswer, operandsPK, hlegal, if_true, Except.ok.injEq] at h
    rw [← h, pairBytes_length (genRoundKeys_fst_length _ _ _ _) (genRoundKeys_snd_length _ _ _ _)]
    ring
  · simp [genRkAnswer, operandsPK, hlegal] at h

theorem dodecadAnswer_length {S : Sbox} {p q : List Byte} (h : dodecadAnswer S p = .ok q) : q.length = 48 := by
  rw [dodecadAnswer_eq] at h
  split_ifs at h
  cases hrot : rotOperands (wordsAt 12 p 96) with
  | none => simp [hrot] at h
  | some tr =>
    simp only [hrot, Except.ok.injEq] at h
    simp [← h]

theorem hexadAnswer_length {f : Vector Word 6 → Vector Word 6 → Vector Rot 6 → Vector Word 6} {p q : List Byte}
    (h : hexadAnswer f p = .ok q) : q.length = 24 := by
  rw [hexadAnswer_eq] at h
  split_ifs at h
  cases hrot : rotOperands (wordsAt 6 p 48) with
  | none => simp [hrot] at h
  | some kr =>
    simp only [hrot, Except.ok.injEq] at h
    simp [← h]

theorem fAnswer_length {f : Word → Word → Rot → Word} {p q : List Byte} (h : fAnswer f p = .ok q) :
    q.length = 4 := by
  rw [fAnswer_eq] at h
  split_ifs at h
  simp only [Except.ok.injEq] at h
  simp [← h]

/-- Every command answers, and an `OK` answer has the length of the command's row (R16, R74). -/
theorem exec_answers (i : Instr) (s : State) : ∃ t, exec i s = .next t ∧ Answers (responseLength i) s t := by
  cases i with
  | keyInit key => exact ⟨_, rfl, .ok (installKey_samePorts _ key s) rfl⟩
  | encBlock p => exact ⟨_, rfl, blockCommand_answers _ p s⟩
  | decBlock p => exact ⟨_, rfl, blockCommand_answers _ p s⟩
  | rdKm p => exact ⟨_, rfl, readStoreCommand_answers (by simp) p s⟩
  | rdKr p => exact ⟨_, rfl, readStoreCommand_answers (by simp) p s⟩
  | ctrInit p => exact ⟨_, rfl, ctrInitCommand_answers _ p s⟩
  | ctrEncrypt data => exact ⟨_, rfl, ctrDataCommand_answers _ data s⟩
  | ctrDecrypt data => exact ⟨_, rfl, ctrDataCommand_answers _ data s⟩
  | ctrSeek c => exact ⟨_, rfl, ctrSeekCommand_answers c s⟩
  | genSched p => exact ⟨_, rfl, answer_answers (fun _ => genSchedAnswer_length) s⟩
  | genRk p => exact ⟨_, rfl, answer_answers (fun _ => genRkAnswer_length) s⟩
  | dodecad p => exact ⟨_, rfl, answer_answers (fun _ => dodecadAnswer_length) s⟩
  | hexad p => exact ⟨_, rfl, answer_answers (fun _ => hexadAnswer_length) s⟩
  | hexadInv p => exact ⟨_, rfl, answer_answers (fun _ => hexadAnswer_length) s⟩
  | f1 p => exact ⟨_, rfl, answer_answers (fun _ => fAnswer_length) s⟩
  | f2 p => exact ⟨_, rfl, answer_answers (fun _ => fAnswer_length) s⟩
  | f3 p => exact ⟨_, rfl, answer_answers (fun _ => fAnswer_length) s⟩
  | f4 p => exact ⟨_, rfl, answer_answers (fun _ => fAnswer_length) s⟩
  | f5 p => exact ⟨_, rfl, answer_answers (fun _ => fAnswer_length) s⟩
  | f6 p => exact ⟨_, rfl, answer_answers (fun _ => fAnswer_length) s⟩

/-- Settles O13: a response frame determines its status and payload, and an `OK` answer has the row's length. -/
theorem responseLengthIsTheTables : Obligations.ResponseLengthIsTheTables := by
  intro i s t p hexec hresp
  obtain ⟨_, hnext, hanswers⟩ := exec_answers i s
  obtain rfl : _ = t := by simpa [hexec] using hnext.symm
  obtain ⟨-, -, status, q, hframe, hcase⟩ := hanswers.response
  obtain ⟨rfl, rfl⟩ := response_payload_unique (hframe.symm.trans hresp)
  obtain ⟨-, hlen⟩ | ⟨hne, -⟩ := hcase
  · exact hlen
  · exact absurd rfl hne

/-! ### One response for each frame (R62, R66) -/

/-- The response to a command that a frame carries fits a frame: GEN_SCHED's largest is 96 · 255 · 255 bytes (R62,
R74). -/
theorem responseLength_lt {i : Instr} (hwf : i.WellFormed) : responseLength i < 2 ^ 24 := by
  have hbyte (p : List Byte) (k : Nat) : (p.getD k 0).toNat ≤ 255 := Nat.le_of_lt_succ (p.getD k 0).isLt
  cases i with
  | ctrEncrypt data => exact hwf
  | ctrDecrypt data => exact hwf
  | genSched p =>
    calc 96 * (p.getD 0 0).toNat * (p.getD 1 0).toNat
      _ ≤ 96 * 255 * 255 := Nat.mul_le_mul (Nat.mul_le_mul_left 96 (hbyte p 0)) (hbyte p 1)
      _ < 2 ^ 24 := by decide
  | genRk p =>
    calc 48 * (p.getD 0 0).toNat
      _ ≤ 48 * 255 := Nat.mul_le_mul_left 48 (hbyte p 0)
      _ < 2 ^ 24 := by decide
  | _ => simp [responseLength]

/-- With reset low, a step consumes a complete frame and answers it, with a payload that fits a frame (R16, R66). -/
theorem step_answers {s : State} {f : Frame} {rest : List Byte} (hline : s.resetLine = false)
    (htake : takeFrame s.cmdPort = some (f, rest)) :
    ∃ n t, n < 2 ^ 24 ∧ step s = .next t ∧ Answers n (s.setCmdPort rest) t := by
  cases hcommand : commandOf f.opc f.payload with
  | none => exact ⟨0, _, by decide, step_reserved hline htake hcommand, .fault _⟩
  | some i =>
    have hdecode : decode s.cmdPort = .ok (i, rest) := decode_eq_ok_iff.mpr ⟨f, htake, hcommand⟩
    obtain ⟨-, hwf⟩ := encodeOfDecodedCommandGivesTheFrame _ _ _ hdecode
    obtain ⟨t, hexec, hanswers⟩ := exec_answers i (s.setCmdPort rest)
    exact ⟨_, t, responseLength_lt hwf, (stepRunsTheDecodedCommand s i rest hline hdecode hwf).trans hexec, hanswers⟩

/-- Settles O10: the step's one answer is a response frame, of a command's row or of a fault. -/
theorem everyFrameGetsExactlyOneResponse : Obligations.EveryFrameGetsExactlyOneResponse := by
  intro s f rest hline htake
  obtain ⟨n, t, hn, hstep, hanswers⟩ := step_answers hline htake
  obtain ⟨hcmd, hreset, status, p, hresp, hcase⟩ := hanswers.response
  refine ⟨t, status, p, hstep, hcmd, hreset.trans hline, ?_⟩
  obtain ⟨rfl, rfl⟩ | ⟨-, hle, rfl⟩ := hcase
  · exact ⟨hn, hresp, by decide, fun hne => absurd rfl hne⟩
  · exact ⟨by decide, hresp, hle, fun _ => rfl⟩

end Sys2Proof.Machine
end

section
/-! Arithmetic and the combine functions (R83, R92): the rotation as a number and bit by bit, and what tables of zeros
make of the cipher. -/

namespace Sys2Proof.Machine

open Sys2Proof

/-! ### The circular left rotation (R83) -/

/-- R83's formula holds for every rotation amount, 0 included: the two halves of a rotated word occupy separate bits. -/
theorem rotl32_toNat (v : Word) (n : Rot) :
    (rotl32 v n).toNat = (v.toNat * 2 ^ n.toNat) % 2 ^ 32 + v.toNat / 2 ^ (32 - n.toNat) := by
  have hn : n.toNat < 32 := n.isLt
  have hwidth : 2 ^ 32 = 2 ^ n.toNat * 2 ^ (32 - n.toNat) := by rw [← pow_add]; congr 1; omega
  have hlow : v.toNat / 2 ^ (32 - n.toNat) < 2 ^ n.toNat :=
    Nat.div_lt_of_lt_mul (by rw [mul_comm, ← hwidth]; exact v.isLt)
  have hhigh : (v.toNat * 2 ^ n.toNat) % 2 ^ 32 = 2 ^ n.toNat * (v.toNat % 2 ^ (32 - n.toNat)) := by
    rw [mul_comm, hwidth, Nat.mul_mod_mul_left]
  rw [rotl32, BitVec.toNat_rotateLeft, Nat.mod_eq_of_lt hn, Nat.shiftLeft_eq, Nat.shiftRight_eq_div_pow, hhigh,
    Nat.two_pow_add_eq_or_of_lt hlow]

theorem rotl32_zero (v : Word) : rotl32 v 0 = v := by
  have hv : v.toNat < 2 ^ 32 := v.isLt
  apply BitVec.eq_of_toNat_eq
  calc (rotl32 v 0).toNat
    _ = v.toNat * 2 ^ 0 % 2 ^ 32 + v.toNat / 2 ^ 32 := rotl32_toNat v 0
    _ = v.toNat := by omega

/-- Bit `i` goes to place `i + n`, or, where that is past the word's end, wraps round to `i + n - 32` (R83). -/
theorem rotl32_getLsbD (v : Word) (n : Rot) (i : Nat) (hi : i < 32) :
    (rotl32 v n).getLsbD ((i + n.toNat) % 32) = v.getLsbD i := by
  have hn : n.toNat < 32 := n.isLt
  rw [rotl32, BitVec.getLsbD_rotateLeft_of_le hn]
  by_cases hwrap : i + n.toNat < 32
  · have hplace : (i + n.toNat) % 32 = i + n.toNat := Nat.mod_eq_of_lt hwrap
    simp [hplace, hwrap]
  · have hplace : (i + n.toNat) % 32 = i + n.toNat - 32 := by omega
    have hlow : i + n.toNat - 32 < n.toNat := by omega
    have hsource : 32 - n.toNat + (i + n.toNat - 32) = i := by omega
    simp [hplace, hlow, hsource]

/-- Settles O20. -/
theorem rotationIsCircularLeft : Obligations.RotationIsCircularLeft :=
  ⟨rotl32_zero, fun v n _ => rotl32_toNat v n, rotl32_getLsbD, by decide⟩

/-! ### Tables of zeros (R92 (d)) -/

/-- Tables with every entry 0. -/
def zeroTables : Sbox := ⟨fun _ => 0, fun _ => 0, fun _ => 0, fun _ => 0⟩

/-- Whatever the first operation and the rotation give, four looked-up zeros add, subtract and XOR to 0. -/
theorem combine_zeroTables (i : Fin 6) (d km : Word) (kr : Rot) : combine zeroTables i d km kr = 0 := by
  match i with
  | 0 => simp [combine, F1, zeroTables]
  | 1 => simp [combine, F2, zeroTables]
  | 2 => simp [combine, F3, zeroTables]
  | 3 => simp [combine, F4, zeroTables]
  | 4 => simp [combine, F5, zeroTables]
  | 5 => simp [combine, F6, zeroTables]

/-- A mixing step XORs a combine function's 0 into its target word, so it changes nothing. -/
theorem mixStep_zeroTables {n : Nat} (i : Fin 6) (tgt src : Fin n) (km : Word) (kr : Rot) (w : Vector Word n) :
    mixStep zeroTables i tgt src km kr w = w := by
  simp [mixStep, combine_zeroTables]

theorem dodecad_zeroTables (k tm : Vector Word 12) (tr : Vector Rot 12) : dodecad zeroTables k tm tr = k := by
  rw [dodecad]
  exact List.foldl_fixed' (fun _ => mixStep_zeroTables _ _ _ _ _ k) _

theorem hexad_zeroTables (w km : Vector Word 6) (kr : Vector Rot 6) : hexad zeroTables w km kr = w := by
  rw [hexad]
  exact List.foldl_fixed' (fun _ => mixStep_zeroTables _ _ _ _ _ w) _

theorem hexadInv_zeroTables (w km : Vector Word 6) (kr : Vector Rot 6) : hexadInv zeroTables w km kr = w := by
  rw [hexadInv]
  exact List.foldl_fixed' (fun _ => mixStep_zeroTables _ _ _ _ _ w) _

/-- Rounds of hexads leave the working block as they found it, in any order of rounds. -/
theorem foldl_forwardRound_zeroTables (km : Vector Word 72) (kr : Vector Rot 72) (w : Vector Word 6)
    (rounds : List (Fin 12)) : rounds.foldl (forwardRound zeroTables km kr) w = w :=
  List.foldl_fixed' (fun r => hexad_zeroTables w (roundSlice km r) (roundSlice kr r)) rounds

/-- Rounds of inverse hexads leave the working block as they found it, in any order of rounds. -/
theorem foldl_inverseRound_zeroTables (km : Vector Word 72) (kr : Vector Rot 72) (w : Vector Word 6)
    (rounds : List (Fin 12)) : rounds.foldl (inverseRound zeroTables km kr) w = w :=
  List.foldl_fixed' (fun r => hexadInv_zeroTables w (roundSlice km r) (roundSlice kr r)) rounds

/-- Only the conversion between bytes and words is left of a block's encryption (R124). -/
theorem encBlock_zeroTables (km : Vector Word 72) (kr : Vector Rot 72) (blk : Vector Byte 24) :
    encBlock zeroTables km kr blk = blk := by
  simp only [encBlock, foldl_forwardRound_zeroTables, foldl_inverseRound_zeroTables, wordsBlock_blockWords]

/-- Only the conversion between bytes and words is left of a block's decryption (R125). -/
theorem decBlock_zeroTables (km : Vector Word 72) (kr : Vector Rot 72) (blk : Vector Byte 24) :
    decBlock zeroTables km kr blk = blk := by
  simp only [decBlock, foldl_forwardRound_zeroTables, foldl_inverseRound_zeroTables, wordsBlock_blockWords]

/-- Settles O23: a combine function that answers 0 makes every step, and so every round, the identity. -/
theorem zeroTablesMakeTheCipherTheIdentity : Obligations.ZeroTablesMakeTheCipherTheIdentity :=
  ⟨combine_zeroTables, dodecad_zeroTables, fun w km kr => ⟨hexad_zeroTables w km kr, hexadInv_zeroTables w km kr⟩,
    fun km kr blk => ⟨encBlock_zeroTables km kr blk, decBlock_zeroTables km kr blk⟩⟩

end Sys2Proof.Machine
end

section
/-! The key schedule (R100 to R110): the temporary schedule entry by entry, the dodecad step by step and backwards, the key
seen through its normalised form, and the round keys as extractions from one carried block. -/

namespace Sys2Proof.Machine

open Sys2Proof

/-! ### The dodecad (R102, R109) -/

/-- Settles O28: each step writes a word that only the next step reads, so the twelve writes never disturb each other. -/
theorem dodecadChainsEachWordIntoTheNext : Obligations.DodecadChainsEachWordIntoTheNext := by
  intro S k tm tr
  simp [dodecad, dodecadOrder, dodecadStep, mixStep, combine, dodecadFn, dodecadTgt, dodecadSrc]

/-- The twelve steps of a dodecad, last first. -/
def dodecadBack (S : Sbox) (tm : Vector Word 12) (tr : Vector Rot 12) (k : Vector Word 12) : Vector Word 12 :=
  dodecadOrder.reverse.foldl (dodecadStep S tm tr) k

/-- The steps taken back undo the dodecad, each step undoing itself (R109). -/
theorem dodecadBack_dodecad (S : Sbox) (k tm : Vector Word 12) (tr : Vector Rot 12) :
    dodecadBack S tm tr (dodecad S k tm tr) = k := by
  rw [dodecad]
  exact foldl_reverse_foldl _ (dodecadStep_dodecadStep S tm tr) dodecadOrder k

/-- The dodecad undoes its steps taken back (R109). -/
theorem dodecad_dodecadBack (S : Sbox) (k tm : Vector Word 12) (tr : Vector Rot 12) :
    dodecad S (dodecadBack S tm tr k) tm tr = k := by
  rw [dodecad]
  exact foldl_reverse_foldl _ (dodecadStep_dodecadStep S tm tr) dodecadOrder.reverse k

/-- Settles O27: the steps taken back are a two-sided inverse. -/
theorem dodecadIsABijection : Obligations.DodecadIsABijection := fun S tm tr =>
  Function.bijective_iff_has_inverse.mpr
    ⟨dodecadBack S tm tr, fun k => dodecadBack_dodecad S k tm tr, fun k => dodecad_dodecadBack S k tm tr⟩

/-! ### The temporary schedule (R100, R101, R108) -/

theorem tmEntry_toNat (i : Nat) : (tmEntry i).toNat = (0x5A827999 + i * 0x6ED9EBA1) % 2 ^ 32 := by
  rw [tmEntry, BitVec.toNat_ofNat, Config.cm0, Config.cmStep]

theorem trEntry_toNat (i : Nat) : (trEntry i).toNat = (19 + 17 * i) % 32 := by
  rw [trEntry, BitVec.toNat_ofNat]

/-- The rotation recurrence has period 32 (R108). -/
theorem trEntry_add_period (i : Nat) : trEntry (i + 32) = trEntry i := by
  apply BitVec.eq_of_toNat_eq
  simp only [trEntry_toNat]
  omega

/-- 17 is its own inverse modulo 32, so each rotation amount stands at one place of a period, which that inverse finds
(R108). -/
theorem trEntry_eq_iff (x : Rot) (j : Nat) (hj : j < 32) : trEntry j = x ↔ j = 17 * (x.toNat + 13) % 32 := by
  have hx : x.toNat < 32 := x.isLt
  rw [← BitVec.toNat_inj, trEntry_toNat]
  omega

/-- The masking recurrence steps by its constant, modulo 2^32 (R108). -/
theorem tmEntry_succ (i : Nat) : tmEntry (i + 1) = tmEntry i + 0x6ED9EBA1 := by
  rw [tmEntry, tmEntry, Nat.succ_mul, ← Nat.add_assoc, BitVec.ofNat_add _ Config.cmStep]
  rfl

/-- A shorter initial range starts a longer one. -/
theorem map_range_isPrefix {α : Type} (f : Nat → α) {m n : Nat} (h : m ≤ n) :
    (List.range m).map f <+: (List.range n).map f := by
  obtain ⟨k, rfl⟩ := Nat.exists_eq_add_of_le h
  exact ⟨_, by rw [← List.map_append, ← List.range_add]⟩

/-- Settles O25. -/
theorem temporaryScheduleHasPeriodAndStep : Obligations.TemporaryScheduleHasPeriodAndStep := by
  refine ⟨trEntry_add_period, fun x => ?_, tmEntry_succ, fun i => Nat.le_of_lt_succ (trEntry i).isLt,
    fun r d r' d' hle => ?_⟩
  · have hplace : 17 * (x.toNat + 13) % 32 < 32 := Nat.mod_lt _ (by decide)
    exact ⟨_, hplace, (trEntry_eq_iff x _ hplace).mpr rfl, fun j hj => (trEntry_eq_iff x j hj).mp⟩
  · have hlen : 12 * r * d ≤ 12 * r' * d' := by
      simpa only [Nat.mul_assoc] using Nat.mul_le_mul_left 12 hle
    exact ⟨map_range_isPrefix tmEntry hlen, map_range_isPrefix trEntry hlen⟩

/-! ### GEN_SCHED (R167) -/

/-- Masking words and rotation amounts are answered as one word sequence, masking words first (R74). -/
theorem pairBytes_eq_bytes (t : List Word × List Rot) : pairBytes t = bytes (t.1 ++ t.2.map rotWord) :=
  (bytes_append _ _).symm

/-- The word at offset `4 * j` of a word sequence, where nothing stands around it (R41). -/
theorem wordAt_bytes_self (ws : List Word) (j : Nat) (h : j < ws.length) : wordAt (bytes ws) (4 * j) = ws[j] := by
  simpa using wordAt_bytes ws [] [] j h

theorem rotWord_toNat (x : Rot) : (rotWord x).toNat = x.toNat :=
  BitVec.toNat_setWidth_of_le (by decide)

/-- GEN_SCHED of two bytes answers the schedule of these two numbers (R167). -/
theorem genSchedAnswer_pair (r d : Byte) : genSchedAnswer [r, d] = .ok (pairBytes (genSched r.toNat d.toNat)) := rfl

/-- GEN_SCHED of any other length is refused (R167). -/
theorem genSchedAnswer_badLength {p : List Byte} (h : p.length ≠ 2) : genSchedAnswer p = .error .badLength := by
  simp [genSchedAnswer, operandsP, legalLen, h]

/-- Word `i` of GEN_SCHED's answer is masking entry `i` (R167). -/
theorem wordAt_pairBytes_genSched_tm {r d i : Nat} (hi : i < 12 * r * d) :
    wordAt (pairBytes (genSched r d)) (4 * i) = tmEntry i := by
  rw [pairBytes_eq_bytes, wordAt_bytes_self _ _ (by simp; omega), List.getElem_append_left (by simpa using hi)]
  simp [genSched]

/-- Word `12 · r · d + i` of GEN_SCHED's answer is rotation entry `i` (R167). -/
theorem wordAt_pairBytes_genSched_tr {r d i : Nat} (hi : i < 12 * r * d) :
    wordAt (pairBytes (genSched r d)) (4 * (12 * r * d + i)) = rotWord (trEntry i) := by
  rw [pairBytes_eq_bytes, wordAt_bytes_self _ _ (by simpa using hi), List.getElem_append_right (by simp)]
  simp [genSched]

/-- Settles O24. -/
theorem genSchedAnswersTheRecurrences : Obligations.GenSchedAnswersTheRecurrences := by
  refine ⟨fun p s hlen => ?_, fun r d s => ⟨pairBytes (genSched r.toNat d.toNat), ?_, ?_, fun i hi => ⟨?_, ?_⟩⟩⟩
  · show Host.Outcome.next (s.answer (genSchedAnswer p)) = _
    rw [genSchedAnswer_badLength hlen]
    rfl
  · show Host.Outcome.next (s.answer (genSchedAnswer [r, d])) = _
    rw [genSchedAnswer_pair]
    exact congrArg _ (respond_of_length s (genSchedAnswer_length (genSchedAnswer_pair r d)))
  · exact genSchedAnswer_length (genSchedAnswer_pair r d)
  · rw [wordAt_pairBytes_genSched_tm hi, tmEntry_toNat]
  · rw [wordAt_pairBytes_genSched_tr hi, rotWord_toNat, trEntry_toNat]

/-! ### The normalised key (R103) -/

theorem normaliseKey_of_ge {key : List Byte} (h : 48 ≤ key.length) : normaliseKey key = key.take 48 := by
  simp [normaliseKey, h]

theorem normaliseKey_of_le {key : List Byte} (h : key.length ≤ 48) :
    normaliseKey key = key ++ List.replicate (48 - key.length) 0 := by
  rw [normaliseKey, List.take_of_length_le h]

theorem normaliseKey_length (key : List Byte) : (normaliseKey key).length = 48 := by
  simp only [normaliseKey, List.length_append, List.length_take, List.length_replicate, Config.keyBytes]
  omega

/-- The key whose byte `i` is `f i`, cut off at 48 bytes (R103). -/
theorem normaliseKey_map_range {n : Nat} (f : Nat → Byte) (h : 48 ≤ n) :
    normaliseKey ((List.range n).map f) = (List.range 48).map f := by
  rw [normaliseKey_of_ge (by simpa using h), ← List.map_take, List.take_range, Nat.min_eq_left h]

/-- Zero bytes that keep a key within 48 bytes are the padding it gets anyway (R103). -/
theorem normaliseKey_append_zeros {key : List Byte} {n : Nat} (h : key.length + n ≤ 48) :
    normaliseKey (key ++ List.replicate n 0) = normaliseKey key := by
  have hpad : n + (48 - (key.length + n)) = 48 - key.length := by omega
  rw [normaliseKey_of_le (by simpa using h), normaliseKey_of_le (by omega), List.append_assoc, List.length_append,
    List.length_replicate, List.replicate_append_replicate, hpad]

/-- Bytes of index 48 and above are cut off (R103). -/
theorem normaliseKey_append_of_ge {key : List Byte} (more : List Byte) (h : 48 ≤ key.length) :
    normaliseKey (key ++ more) = normaliseKey key := by
  rw [normaliseKey_of_ge (by simp; omega), normaliseKey_of_ge h, List.take_append_of_le_length h]

/-- A key enters the key schedule through its normalised form alone (R104). -/
theorem genRoundKeys_congr (S : Sbox) {key key' : List Byte} (h : normaliseKey key = normaliseKey key') (r d : Nat) :
    genRoundKeys S key r d = genRoundKeys S key' r d := by
  rw [genRoundKeys, genRoundKeys, genRk, genRk, keyWords, keyWords, h]

/-- The round keys of a key come from its normalised form alone (R110). -/
theorem deriveKeys_congr (S : Sbox) {key key' : List Byte} (h : normaliseKey key = normaliseKey key') :
    deriveKeys S key = deriveKeys S key' :=
  Prod.ext
    (Vector.toList_inj.mp (by rw [deriveKeys_fst_toList, deriveKeys_fst_toList, genRoundKeys_congr S h]))
    (Vector.toList_inj.mp (by rw [deriveKeys_snd_toList, deriveKeys_snd_toList, genRoundKeys_congr S h]))
/-- KEY_INIT installs the derived round keys, sets `KEY_VALID` and answers an empty `OK` (R107). -/
theorem exec_keyInit (key : List Byte) (s : State) :
    exec (.keyInit key) s =
      .next { s with km := (deriveKeys Config.sbox key).1, kr := (deriveKeys Config.sbox key).2, keyValid := true,
                     respPort := s.respPort ++ [0x00, 0x00, 0x00, 0x00] } := by
  show Host.Outcome.next ((s.installKey Config.sbox key).respond []) = _
  rw [installKey_eq]
  rfl

/-- Settles O26. -/
theorem keyIsPaddedAndTruncatedTo48Bytes : Obligations.KeyIsPaddedAndTruncatedTo48Bytes := by
  refine ⟨normaliseKey_length, fun key => normaliseKey_of_ge, fun key n hlen => ?_,
    normaliseKey_of_le (by decide), normaliseKey_map_range _ (by decide), fun s key more n => ⟨fun hlen => ?_, fun hlen => ?_⟩⟩
  · obtain rfl : n = 48 - key.length := by omega
    exact normaliseKey_of_le (by omega)
  · rw [exec_keyInit, exec_keyInit, deriveKeys_congr _ (normaliseKey_append_zeros hlen)]
  · rw [exec_keyInit, exec_keyInit, deriveKeys_congr _ (normaliseKey_append_of_ge more hlen)]

/-! ### KEY_INIT, and GEN_RK beside the stores it writes (R107, R110, R168) -/

/-- Settles O33. -/
theorem keyInitReplacesTheRoundKeys : Obligations.KeyInitReplacesTheRoundKeys := fun key s =>
  ⟨_, _, deriveKeys_fst_toList _ key, deriveKeys_snd_toList _ key, exec_keyInit key s⟩

/-- RD_KM of a keyed engine answers the masking store (R165). -/
theorem exec_rdKm {s : State} (hkeyed : s.keyValid = true) :
    exec (.rdKm []) s = .next (s.respond (bytes s.km.toList)) := by
  show Host.Outcome.next (readStoreCommand _ [] s) = _
  simp [readStoreCommand_eq, hkeyed]

/-- RD_KR of a keyed engine answers the rotation store (R166). -/
theorem exec_rdKr {s : State} (hkeyed : s.keyValid = true) :
    exec (.rdKr []) s = .next (s.respond (bytes (s.kr.toList.map rotWord))) := by
  show Host.Outcome.next (readStoreCommand _ [] s) = _
  simp [readStoreCommand_eq, hkeyed]

/-- GEN_RK for 12 rounds of 4 dodecads answers the two stores that KEY_INIT derives (R110, R168). -/
theorem genRkAnswer_eq_deriveKeys (S : Sbox) (key : List Byte) :
    genRkAnswer S (0x0C :: 0x04 :: key) =
      .ok (bytes (deriveKeys S key).1.toList ++ bytes ((deriveKeys S key).2.toList.map rotWord)) := by
  rw [deriveKeys_fst_toList, deriveKeys_snd_toList]
  simp [genRkAnswer, operandsPK, legalLen, pairBytes]

/-- A command that completes is followed by the rest of the list (R50). -/
theorem execAll_cons {i : Instr} {s t : State} (h : exec i s = .next t) (is : List Instr) :
    execAll (i :: is) s = execAll is t := by
  rw [execAll, h]

/-- KEY_INIT, RD_KM and RD_KR in a row answer an empty `OK` and the two derived stores (R107, R165, R166). -/
theorem execAll_keyInit_rdKm_rdKr (key : List Byte) (s : State) :
    execAll [.keyInit key, .rdKm [], .rdKr []] s =
      .next ((((s.installKey Config.sbox key).respond []).respond (bytes (deriveKeys Config.sbox key).1.toList)).respond
        (bytes ((deriveKeys Config.sbox key).2.toList.map rotWord))) := by
  have hinit : exec (.keyInit key) s = .next ((s.installKey Config.sbox key).respond []) := rfl
  rw [execAll_cons hinit, execAll_cons (exec_rdKm (by simp)), execAll_cons (exec_rdKr (by simp)), execAll]
  simp only [State.respond_km, State.respond_kr, State.installKey_km, State.installKey_kr]

/-- Settles O32: both sides answer the bytes of the derived stores. -/
theorem genRkAgreesWithTheInstalledKeys : Obligations.GenRkAgreesWithTheInstalledKeys := by
  intro key s
  have hkm : (bytes (deriveKeys Config.sbox key).1.toList).length = 288 := by simp
  have hkr : (bytes ((deriveKeys Config.sbox key).2.toList.map rotWord)).length = 288 := by simp
  refine ⟨_, _, hkm, hkr, ⟨_, execAll_keyInit_rdKm_rdKr key s, ?_⟩, ?_⟩
  · simp only [State.respond_respPort, State.installKey_respPort, responseFrame, hkm, hkr]
    rfl
  · show Host.Outcome.next (s.answer (genRkAnswer Config.sbox (0x0C :: 0x04 :: key))) = _
    rw [genRkAnswer_eq_deriveKeys]
    exact congrArg _ (respond_of_length s (n := 0x240) (by rw [List.length_append, hkm, hkr]))

/-! ### The carried block and the round keys (R105, R106)

`GenRK` never resets its block κ, so all its dodecads, of every round, form one chain: dodecad `m` of the chain consumes the
schedule entries from `12 · m` on, and round `ρ` extracts its keys from the block after `(ρ + 1) · d` dodecads. -/

/-- The block κ after `m` dodecads of the chain from `κ₀`, for a schedule given entry by entry. -/
def chainBlock (S : Sbox) (tm : Nat → Word) (tr : Nat → Rot) (κ₀ : Vector Word 12) : Nat → Vector Word 12
  | 0 => κ₀
  | m + 1 => dodecad S (chainBlock S tm tr κ₀ m)
      (Vector.ofFn fun i : Fin 12 => tm (12 * m + i.val)) (Vector.ofFn fun i : Fin 12 => tr (12 * m + i.val))

/-- The first `m` dodecads of the chain consume the first `12 · m` entries of the schedule and no others. -/
theorem chainBlock_congr (S : Sbox) {tm tm' : Nat → Word} {tr tr' : Nat → Rot} (κ₀ : Vector Word 12) {m : Nat}
    (htm : ∀ i, i < 12 * m → tm i = tm' i) (htr : ∀ i, i < 12 * m → tr i = tr' i) :
    chainBlock S tm tr κ₀ m = chainBlock S tm' tr' κ₀ m := by
  induction m with
  | zero => rfl
  | succ m ih =>
    have hprev := ih (fun i hi => htm i (by omega)) (fun i hi => htr i (by omega))
    have htmEntries : (fun i : Fin 12 => tm (12 * m + i.val)) = fun i => tm' (12 * m + i.val) :=
      funext fun i => htm _ (by omega)
    have htrEntries : (fun i : Fin 12 => tr (12 * m + i.val)) = fun i => tr' (12 * m + i.val) :=
      funext fun i => htr _ (by omega)
    rw [chainBlock, chainBlock, hprev, htmEntries, htrEntries]

section chain

variable (S : Sbox) (tm : List Word) (tr : List Rot) (κ₀ : Vector Word 12) (d : Nat)

/-- The chain over two sequences, as `GenRK` reads them. -/
def listChainBlock (m : Nat) : Vector Word 12 :=
  chainBlock S (fun i => tm.getD i 0) (fun i => tr.getD i 0) κ₀ m

/-- A dodecad of a round is the next dodecad of the chain (R105). -/
theorem scheduleDodecad_listChainBlock (ρ q : Nat) :
    scheduleDodecad S tm tr d ρ (listChainBlock S tm tr κ₀ (ρ * d + q)) q =
      listChainBlock S tm tr κ₀ (ρ * d + q + 1) := rfl

/-- A round is `d` further dodecads of the chain (R105). -/
theorem scheduleRound_listChainBlock (ρ : Nat) :
    scheduleRound S tm tr d (listChainBlock S tm tr κ₀ (ρ * d)) ρ = listChainBlock S tm tr κ₀ ((ρ + 1) * d) := by
  have hfirst (n : Nat) : (List.range n).foldl (scheduleDodecad S tm tr d ρ) (listChainBlock S tm tr κ₀ (ρ * d)) =
      listChainBlock S tm tr κ₀ (ρ * d + n) := by
    induction n with
    | zero => rfl
    | succ n ih =>
      rw [List.range_succ, List.foldl_append, ih]
      exact scheduleDodecad_listChainBlock S tm tr κ₀ d ρ n
  rw [scheduleRound, hfirst, Nat.succ_mul]

/-- Each round from `ρ` on extracts from the chain's block after it (R105). -/
theorem genRkFrom_listChainBlock (n ρ : Nat) :
    genRkFrom S tm tr d n ρ (listChainBlock S tm tr κ₀ (ρ * d)) =
      ((List.range' ρ n).flatMap fun ρ' => extractKm (listChainBlock S tm tr κ₀ ((ρ' + 1) * d)),
        (List.range' ρ n).flatMap fun ρ' => extractKr (listChainBlock S tm tr κ₀ ((ρ' + 1) * d))) := by
  induction n generalizing ρ with
  | zero => rfl
  | succ n ih =>
    simp only [genRkFrom, scheduleRound_listChainBlock, ih, List.range'_succ, List.flatMap_cons]

end chain

/-- `roundKeysOf κ d r`: the round keys that `r` rounds extract from a sequence of blocks, round `ρ` from the block after
`(ρ + 1) · d` dodecads (R105). -/
def roundKeysOf (κ : Nat → Vector Word 12) (d r : Nat) : List Word × List Rot :=
  ((List.range r).flatMap fun ρ => extractKm (κ ((ρ + 1) * d)), (List.range r).flatMap fun ρ => extractKr (κ ((ρ + 1) * d)))

/-- `GenRK` extracts from the chain that starts at the key words (R104, R105). -/
theorem genRk_eq_roundKeysOf (S : Sbox) (tm : List Word) (tr : List Rot) (key : List Byte) (r d : Nat) :
    genRk S tm tr key r d = roundKeysOf (listChainBlock S tm tr (keyWords key)) d r := by
  have hchain := genRkFrom_listChainBlock S tm tr (keyWords key) d r 0
  rw [Nat.zero_mul] at hchain
  rw [genRk, roundKeysOf, List.range_eq_range']
  exact hchain

/-- Only the blocks that the rounds reach matter. -/
theorem roundKeysOf_congr {κ κ' : Nat → Vector Word 12} {d r : Nat} (h : ∀ m, m ≤ r * d → κ m = κ' m) :
    roundKeysOf κ d r = roundKeysOf κ' d r := by
  have hround : ∀ ρ ∈ List.range r, κ ((ρ + 1) * d) = κ' ((ρ + 1) * d) := fun ρ hρ =>
    h _ (Nat.mul_le_mul_right d (List.mem_range.mp hρ))
  unfold roundKeysOf
  congr 1 <;> exact List.flatMap_congr fun ρ hρ => by rw [hround ρ hρ]

/-- The engine's own chain: the recurrences of R100 as the schedule. -/
def engineBlock (S : Sbox) (key : List Byte) : Nat → Vector Word 12 :=
  chainBlock S tmEntry trEntry (keyWords key)

/-- Over `GenSched(r, d)`, which holds an entry for each dodecad of `r` rounds, `GenRK` extracts from the engine's chain,
whatever `r` is (R101, R105). -/
theorem genRoundKeys_eq_roundKeysOf (S : Sbox) (key : List Byte) (r d : Nat) :
    genRoundKeys S key r d = roundKeysOf (engineBlock S key) d r := by
  rw [genRoundKeys, genRk_eq_roundKeysOf]
  refine roundKeysOf_congr fun m hm => chainBlock_congr S _ (fun i hi => ?_) (fun i hi => ?_) <;>
  · have hentry : i < 12 * r * d := by rw [Nat.mul_assoc]; omega
    simp [genSched, hentry]

/-- Item `6 * ρ + j` of chunks of six is item `j` of chunk `ρ`. -/
theorem flatMap_getElem?_of_six {α β : Type} {f : β → List α} (hsix : ∀ b, (f b).length = 6) (l : List β) (ρ : Nat)
    {j : Nat} (hj : j < 6) : (l.flatMap f)[6 * ρ + j]? = l[ρ]?.bind fun b => (f b)[j]? := by
  induction l generalizing ρ with
  | nil => rfl
  | cons b l ih =>
    cases ρ with
    | zero => simp [List.getElem?_append_left, hsix, hj]
    | succ ρ =>
      have hlater : 6 * (ρ + 1) + j - 6 = 6 * ρ + j := by omega
      rw [List.flatMap_cons, List.getElem?_append_right (by rw [hsix]; omega), hsix, hlater, ih, List.getElem?_cons_succ]

/-- The same for the chunks of a range. -/
theorem flatMap_range_getD {α : Type} {f : Nat → List α} (hsix : ∀ ρ, (f ρ).length = 6) (fill : α) {r ρ j : Nat}
    (hρ : ρ < r) (hj : j < 6) : ((List.range r).flatMap f).getD (6 * ρ + j) fill = (f ρ).getD j fill := by
  rw [List.getD_eq_getElem?_getD, flatMap_getElem?_of_six hsix _ _ hj, List.getElem?_range hρ, Option.bind_some,
    List.getD_eq_getElem?_getD]

/-- Masking key `6 * ρ + j` is word `11 - 2 * j` of the block after round `ρ` (R106). -/
theorem roundKeysOf_km (κ : Nat → Vector Word 12) (d : Nat) {r ρ j : Nat} (hρ : ρ < r) (hj : j < 6) :
    (roundKeysOf κ d r).1.getD (6 * ρ + j) 0 = (κ ((ρ + 1) * d)).toList.getD (11 - 2 * j) 0 := by
  rw [roundKeysOf, flatMap_range_getD (fun _ => rfl) _ hρ hj]
  interval_cases j <;> simp [extractKm]

/-- Rotation key `6 * ρ + j` is the low five bits of word `2 * j` of the block after round `ρ` (R106). -/
theorem roundKeysOf_kr (κ : Nat → Vector Word 12) (d : Nat) {r ρ j : Nat} (hρ : ρ < r) (hj : j < 6) :
    ((roundKeysOf κ d r).2.getD (6 * ρ + j) 0).toNat = ((κ ((ρ + 1) * d)).toList.getD (2 * j) 0).toNat % 32 := by
  rw [roundKeysOf, flatMap_range_getD (fun _ => rfl) _ hρ hj]
  interval_cases j <;> simp [extractKr]

/-- More rounds extend the masking keys and the rotation keys (R105). -/
theorem roundKeysOf_isPrefix (κ : Nat → Vector Word 12) (d : Nat) {r r' : Nat} (h : r ≤ r') :
    (roundKeysOf κ d r).1 <+: (roundKeysOf κ d r').1 ∧ (roundKeysOf κ d r).2 <+: (roundKeysOf κ d r').2 := by
  obtain ⟨k, rfl⟩ := Nat.exists_eq_add_of_le h
  simp only [roundKeysOf, List.range_add, List.flatMap_append]
  exact ⟨⟨_, rfl⟩, ⟨_, rfl⟩⟩

/-- One round of two dodecads is the second round of two rounds of one: both extract from the block after two dodecads
(R105). -/
theorem roundKeysOf_one_two (κ : Nat → Vector Word 12) :
    (roundKeysOf κ 2 1).1 = (roundKeysOf κ 1 2).1.drop 6 ∧ (roundKeysOf κ 2 1).2 = (roundKeysOf κ 1 2).2.drop 6 :=
  ⟨rfl, rfl⟩

/-- Settles O30: the chain's blocks are the witnesses, and the corner cases are facts about extraction from the engine's
own chain. -/
theorem roundKeyExtractionFollowsThePositions : Obligations.RoundKeyExtractionFollowsThePositions := by
  refine ⟨fun S tm tr key r d _ _ => ⟨genRkFrom_fst_length .., genRkFrom_snd_length ..,
      listChainBlock S tm tr (keyWords key), rfl, fun ρ q _ _ => rfl, fun ρ j hρ hj => ?_⟩,
    fun S key r ρ j hρ hj => ?_, fun S key r r' d hle => ?_, fun S key => ?_,
    fun S key => ⟨fun r d => rfl, deriveKeys_fst_toList S key, deriveKeys_snd_toList S key⟩⟩
  · rw [genRk_eq_roundKeysOf]
    exact ⟨roundKeysOf_km _ d hρ hj, roundKeysOf_kr _ d hρ hj⟩
  · rw [genRoundKeys_eq_roundKeysOf]
    exact ⟨roundKeysOf_km _ 0 hρ hj, roundKeysOf_kr _ 0 hρ hj⟩
  · rw [genRoundKeys_eq_roundKeysOf, genRoundKeys_eq_roundKeysOf]
    exact roundKeysOf_isPrefix _ d hle
  · rw [genRoundKeys_eq_roundKeysOf, genRoundKeys_eq_roundKeysOf]
    exact roundKeysOf_one_two _

end Sys2Proof.Machine
end

section
/-! The block kernel (R120 to R128): the hexad step by step and backwards, the rounds of a block one after the other, and
the two commands that transform a block. -/

namespace Sys2Proof.Machine

open Sys2Proof

/-! ### The hexad (R120, R121, R122) -/

/-- The steps taken back undo the hexad, each step undoing itself (R122). -/
theorem hexadInv_hexad (S : Sbox) (w km : Vector Word 6) (kr : Vector Rot 6) :
    hexadInv S (hexad S w km kr) km kr = w := by
  rw [hexad, hexadInv]
  exact foldl_reverse_foldl _ (hexadStep_hexadStep S km kr) hexadOrder w

/-- The hexad undoes its steps taken back (R122). -/
theorem hexad_hexadInv (S : Sbox) (w km : Vector Word 6) (kr : Vector Rot 6) :
    hexad S (hexadInv S w km kr) km kr = w := by
  rw [hexad, hexadInv]
  exact foldl_reverse_foldl _ (hexadStep_hexadStep S km kr) hexadOrder.reverse w

/-- Settles O35. -/
theorem hexadAndHexadInvUndoEachOther : Obligations.HexadAndHexadInvUndoEachOther := fun S w km kr =>
  ⟨hexadInv_hexad S w km kr, hexad_hexadInv S w km kr⟩

/-- A hexad is its six steps, step 0 innermost (R120). -/
theorem hexad_eq_steps (S : Sbox) (w km : Vector Word 6) (kr : Vector Rot 6) :
    let step := fun j w => hexadStep S km kr w j
    hexad S w km kr = step 5 (step 4 (step 3 (step 2 (step 1 (step 0 w))))) := by
  rw [hexad]
  rfl

/-- An inverse hexad is the same six steps, step 5 innermost (R121). -/
theorem hexadInv_eq_steps (S : Sbox) (w km : Vector Word 6) (kr : Vector Rot 6) :
    let step := fun j w => hexadStep S km kr w j
    hexadInv S w km kr = step 0 (step 1 (step 2 (step 3 (step 4 (step 5 w))))) := by
  rw [hexadInv]
  rfl

/-- Settles O36: every word is the target of one step, so each line is read off the step that writes its word. -/
theorem hexadIsItsSixLinesWrittenOut : Obligations.HexadIsItsSixLinesWrittenOut := by
  refine fun S w km kr => ⟨?_, ?_⟩
  · simp [hexad_eq_steps, hexadStep, mixStep, combine, hexadTgt, hexadSrc]
  · simp [hexadInv_eq_steps, hexadStep, mixStep, combine, hexadTgt, hexadSrc]

/-! ### The rounds of a block (R123, R124, R125, R126) -/

/-- Round `r` done forwards after round `r` done inversely, under the same round keys (R122). -/
theorem forwardRound_inverseRound (S : Sbox) (km : Vector Word 72) (kr : Vector Rot 72) (w : Vector Word 6)
    (r : Fin 12) : forwardRound S km kr (inverseRound S km kr w r) r = w :=
  hexad_hexadInv S w _ _

/-- Round `r` done inversely after round `r` done forwards, under the same round keys (R122). -/
theorem inverseRound_forwardRound (S : Sbox) (km : Vector Word 72) (kr : Vector Rot 72) (w : Vector Word 6)
    (r : Fin 12) : inverseRound S km kr (forwardRound S km kr w r) r = w :=
  hexadInv_hexad S w _ _

/-- Decryption takes the rounds of an encryption back, the last round first: its forward rounds 11 to 6 undo the inverse
rounds 6 to 11, and its inverse rounds 5 to 0 undo the forward rounds 0 to 5 (R126). -/
theorem decBlock_encBlock (S : Sbox) (km : Vector Word 72) (kr : Vector Rot 72) (blk : Vector Byte 24) :
    decBlock S km kr (encBlock S km kr blk) = blk := by
  simp only [encBlock, decBlock, blockWords_wordsBlock,
    foldl_reverse_foldl_of_inverse _ _ (forwardRound_inverseRound S km kr) lastRounds,
    foldl_reverse_foldl_of_inverse _ _ (inverseRound_forwardRound S km kr) firstRounds, wordsBlock_blockWords]

/-- Encryption takes the rounds of a decryption back, the last round first (R126). -/
theorem encBlock_decBlock (S : Sbox) (km : Vector Word 72) (kr : Vector Rot 72) (blk : Vector Byte 24) :
    encBlock S km kr (decBlock S km kr blk) = blk := by
  have hfirst := foldl_reverse_foldl_of_inverse _ _ (forwardRound_inverseRound S km kr) firstRounds.reverse
  have hlast := foldl_reverse_foldl_of_inverse _ _ (inverseRound_forwardRound S km kr) lastRounds.reverse
  rw [List.reverse_reverse] at hfirst hlast
  simp only [encBlock, decBlock, blockWords_wordsBlock, hfirst, hlast, wordsBlock_blockWords]

/-- Settles O52: the two lists of rounds, run one round at a time, between reading and writing the six words. -/
theorem blockTransformsAreTheirTwelveRounds : Obligations.BlockTransformsAreTheirTwelveRounds := by
  refine fun S km kr blk => ⟨?_, ?_⟩
  · rw [encBlock, wordsBlock_toList]
    rfl
  · rw [decBlock, wordsBlock_toList]
    rfl

/-! ### ENC_BLOCK and DEC_BLOCK (R126, R127, R128) -/

theorem exec_encBlock (p : List Byte) (s : State) :
    exec (.encBlock p) s = .next (blockCommand (encBlock Config.sbox) p s) := rfl

theorem exec_decBlock (p : List Byte) (s : State) :
    exec (.decBlock p) s = .next (blockCommand (decBlock Config.sbox) p s) := rfl

section outcomes

variable (f : Vector Word 72 → Vector Rot 72 → Vector Byte 24 → Vector Byte 24) {p : List Byte} {s : State}

/-- A keyed engine answers one transformed block (R127, R128). -/
theorem blockCommand_of_keyed (blk : Vector Byte 24) (hkeyed : s.keyValid = true) :
    blockCommand f blk.toList s = { s with respPort := s.respPort ++
      ([0x00, 0x00, 0x00, 0x18] ++ (f s.km s.kr blk).toList) } := by
  rw [blockCommand_eq, if_neg (by simp), if_neg (by simp [hkeyed]), storeOf_ofToList,
    respond_of_length s Vector.length_toList]
  rfl

/-- Without a key a block is refused (R203). -/
theorem blockCommand_of_not_keyed (hlen : p.length = 24) (hkeyed : s.keyValid = false) :
    blockCommand f p s = { s with respPort := s.respPort ++ [0x03, 0x00, 0x00, 0x00] } := by
  rw [blockCommand_eq, if_neg (by simp [hlen]), if_pos hkeyed]
  rfl

/-- A payload that is not one block is refused, key or not (R202, R209). -/
theorem blockCommand_of_bad_length (hlen : p.length ≠ 24) :
    blockCommand f p s = { s with respPort := s.respPort ++ [0x02, 0x00, 0x00, 0x00] } := by
  rw [blockCommand_eq, if_pos hlen]
  rfl

end outcomes

/-- Settles O38: the three outcomes of the body that the two commands share. -/
theorem blockCommandsTransformOneBlock : Obligations.BlockCommandsTransformOneBlock := by
  intro s
  simp only [exec_encBlock, exec_decBlock, Host.Outcome.next.injEq]
  exact ⟨fun blk hkeyed => ⟨blockCommand_of_keyed _ blk hkeyed, blockCommand_of_keyed _ blk hkeyed⟩,
    fun p hlen hkeyed => ⟨blockCommand_of_not_keyed _ hlen hkeyed, blockCommand_of_not_keyed _ hlen hkeyed⟩,
    fun p hlen => ⟨blockCommand_of_bad_length _ hlen, blockCommand_of_bad_length _ hlen⟩⟩

/-- A second block command whose transform undoes the first's, sent the first one's answer, answers the first block: the
first command leaves the round keys and `KEY_VALID` as they are. -/
theorem blockCommand_blockCommand {f g : Vector Word 72 → Vector Rot 72 → Vector Byte 24 → Vector Byte 24}
    (hundo : ∀ km kr blk, g km kr (f km kr blk) = blk) {s : State} (blk : Vector Byte 24) (hkeyed : s.keyValid = true) :
    (blockCommand g (f s.km s.kr blk).toList (blockCommand f blk.toList s)).respPort =
      s.respPort ++ ([0x00, 0x00, 0x00, 0x18] ++ (f s.km s.kr blk).toList) ++
        ([0x00, 0x00, 0x00, 0x18] ++ blk.toList) := by
  rw [blockCommand_of_keyed f blk hkeyed, blockCommand_of_keyed g _ (by exact hkeyed), hundo]

/-- Settles O39: the two transforms undo each other, in both orders, under the round keys that both commands read. -/
theorem encryptionAndDecryptionUndoEachOther : Obligations.EncryptionAndDecryptionUndoEachOther := by
  intro s p hkeyed hlen
  obtain ⟨blk, rfl⟩ : ∃ blk : Vector Byte 24, blk.toList = p := ⟨storeOf 24 0 p, toList_storeOf 0 p hlen⟩
  constructor
  · refine ⟨_, _, Vector.length_toList, ?_, blockCommand_blockCommand (decBlock_encBlock Config.sbox) blk hkeyed⟩
    rw [execAll_cons (exec_encBlock _ s), execAll_cons (exec_decBlock _ _), execAll]
  · refine ⟨_, _, Vector.length_toList, ?_, blockCommand_blockCommand (encBlock_decBlock Config.sbox) blk hkeyed⟩
    rw [execAll_cons (exec_decBlock _ s), execAll_cons (exec_encBlock _ _), execAll]

end Sys2Proof.Machine
end

section
/-! The CTR mode (R140 to R152): the counter block, CTR_INIT and CTR_SEEK, and what the two data commands make of their
data and of the position in the keystream. -/

namespace Sys2Proof.Machine

open Sys2Proof

/-! ### The keystream (R140, R141) -/

theorem counterBlock_getElem_nonce (nonce : Vector Byte 16) (n : Nat) {i : Nat} (h : i < 16) :
    (counterBlock nonce n)[i] = nonce[i] :=
  Vector.getElem_append_left h

theorem counterBlock_getElem_counter (nonce : Vector Byte 16) (n : Nat) {j : Nat} (h : j < 8) :
    (counterBlock nonce n)[16 + j] = BitVec.ofNat 8 (n / 256 ^ (7 - j)) := by
  have hright : (counterBlock nonce n)[16 + j] = (bytes64 n)[16 + j - 16] :=
    Vector.getElem_append_right (by omega) (Nat.le_add_right 16 j)
  simp [hright, bytes64]

/-- Byte `p` of the keystream, read from its block as a list (R141). -/
theorem keystreamByte_eq_getD (S : Sbox) (km : Vector Word 72) (kr : Vector Rot 72) (nonce : Vector Byte 16) (p : Nat) :
    keystreamByte S km kr nonce p = (ksBlock S km kr nonce (p / 24)).toList.getD (p % 24) 0 := by
  have h : p % 24 < 24 := Nat.mod_lt p (by decide)
  simp [keystreamByte, h]

/-- Settles O41. -/
theorem counterBlockIsNonceThenCounter : Obligations.CounterBlockIsNonceThenCounter := by
  refine fun S km kr nonce => ⟨fun n _ => ⟨counterBlock nonce n, ksBlock.eq_1 .., fun i hi => ?_, fun j hj => ?_⟩,
    fun p _ => keystreamByte_eq_getD S km kr nonce p⟩
  · exact counterBlock_getElem_nonce nonce n hi
  · rw [counterBlock_getElem_counter nonce n hj, BitVec.toNat_ofNat]

/-! ### CTR_INIT and CTR_SEEK (R145, R148) -/

theorem exec_ctrInit (p : List Byte) (s : State) : exec (.ctrInit p) s = .next (ctrInitCommand Config.sbox p s) := rfl

theorem exec_ctrSeek (c : List Byte) (s : State) : exec (.ctrSeek c) s = .next (ctrSeekCommand c s) := rfl

/-- Settles O42: a payload of a nonce and a key is read back as these two. -/
theorem ctrInitResetsTheStream : Obligations.CtrInitResetsTheStream := by
  refine fun s => ⟨fun nonce key => ⟨s.ks, ?_⟩, fun p hshort => ?_⟩
  · have hkey : (nonce.toList ++ key).drop 16 = key := List.drop_left' nonce.length_toList
    rw [exec_ctrInit, ctrInitCommand_eq, if_neg (by simp), hkey, storeOf_append]
    rfl
  · rw [exec_ctrInit, ctrInitCommand_eq, if_pos hshort]
    rfl

/-- A seek in range moves to its block and answers an empty `OK` (R148). -/
theorem ctrSeekCommand_of_range {c : List Byte} {s : State} (hvalid : s.ctrValid = true) (hrange : beInt c < 2 ^ 64) :
    ctrSeekCommand c s = (s.moveTo (beInt c)).respond [] := by
  rw [ctrSeekCommand_eq, if_neg (by simp [hvalid]), if_neg (not_le.mpr hrange)]

/-- Settles O43: the move in range, and the two refusals in their order. -/
theorem seekSetsTheCounter : Obligations.SeekSetsTheCounter := by
  refine fun s c => ⟨fun hvalid hrange => ⟨s.ks, ?_⟩, fun hvalid hrange => ?_, fun hinvalid => ?_⟩
  · rw [exec_ctrSeek, ctrSeekCommand_of_range hvalid hrange]
    rfl
  · rw [exec_ctrSeek, ctrSeekCommand_eq, if_neg (by simp [hvalid]), if_pos hrange]
    rfl
  · rw [exec_ctrSeek, ctrSeekCommand_eq, if_pos hinvalid]
    rfl

/-! ### The position (R30, R36, R151) -/

/-- `CUR` and `CTR` in their ranges: what the register invariant asks of the position while the stream is live (R36). -/
structure State.InRange (s : State) : Prop where
  one_le_cur : 1 ≤ s.cur
  cur_le : s.cur ≤ 24
  ctr_le : s.ctr ≤ 2 ^ 64
  one_le_ctr : s.cur < 24 → 1 ≤ s.ctr

theorem State.Inv.inRange {s : State} (hinv : s.Inv) (hvalid : s.ctrValid = true) : s.InRange := by
  obtain ⟨-, hcur, hcur24, hctr, hbuffered⟩ := hinv hvalid
  exact ⟨hcur, hcur24, hctr, hbuffered⟩

theorem moveTo_position (s : State) (n : Nat) : (s.moveTo n).position = 24 * n := by
  simp [State.position]

/-- The position determines `CTR` and `CUR`: an empty buffer at a block boundary, else a buffered block, whose index
is `CTR − 1` (R151). -/
theorem State.InRange.ctr_cur_of_position {s : State} (h : s.InRange) :
    (s.position % 24 = 0 → s.ctr = s.position / 24 ∧ s.cur = 24) ∧
      (s.position % 24 ≠ 0 → s.ctr = s.position / 24 + 1 ∧ s.cur = s.position % 24) := by
  obtain ⟨hcur, hcur24, -, hbuffered⟩ := h
  rw [State.position]
  omega

/-- Data that ends within the keystream needs no block beyond the last (R141, R146). -/
theorem State.InRange.room {s : State} (h : s.InRange) {len : Nat} (hend : s.position + len ≤ 24 * 2 ^ 64) :
    s.wouldExhaust len = false := by
  rw [← Bool.not_eq_true, wouldExhaust_iff s len h.cur_le h.ctr_le h.one_le_ctr]
  exact not_lt.mpr hend

theorem ctrXor_position_eq (S : Sbox) (data : List Byte) {s : State} (h : s.InRange) :
    (ctrXor S data s).2.position = s.position + data.length :=
  (ctrXor_position S data s h.cur_le h.one_le_ctr).1

/-- Within the keystream the streaming XOR keeps `CUR` and `CTR` in range (R143). -/
theorem inRange_ctrXor (S : Sbox) (data : List Byte) {s : State} (h : s.InRange)
    (hend : s.position + data.length ≤ 24 * 2 ^ 64) : (ctrXor S data s).2.InRange := by
  obtain ⟨hpos, hcur24, hbuffered, hcur⟩ := ctrXor_position S data s h.cur_le h.one_le_ctr
  have hcur1 : 1 ≤ (ctrXor S data s).2.cur := by
    cases data with
    | nil => exact h.one_le_cur
    | cons b data => exact hcur (List.cons_ne_nil b data)
  refine ⟨hcur1, hcur24, ?_, hbuffered⟩
  rw [← hpos, State.position] at hend
  omega

/-- The streaming XOR never moves `CTR` back (R143). -/
theorem le_ctrXor_ctr (S : Sbox) (data : List Byte) (s : State) : s.ctr ≤ (ctrXor S data s).2.ctr := by
  obtain ⟨hctr, -⟩ | ⟨hctr, -⟩ := ctrXor_buffer S data s <;> omega

/-! ### The two data commands (R146, R147) -/

/-- CTR_ENCRYPT and CTR_DECRYPT are one operation (R147). -/
theorem exec_ctrData {i : Instr} {data : List Byte} (hi : i = .ctrEncrypt data ∨ i = .ctrDecrypt data) (s : State) :
    exec i s = .next (ctrDataCommand Config.sbox data s) := by
  obtain rfl | rfl := hi <;> rfl

theorem exec_ctrEncrypt (data : List Byte) (s : State) :
    exec (.ctrEncrypt data) s = .next (ctrDataCommand Config.sbox data s) := rfl

theorem exec_ctrDecrypt (data : List Byte) (s : State) :
    exec (.ctrDecrypt data) s = .next (ctrDataCommand Config.sbox data s) := rfl

section outcomes

variable (S : Sbox) {data : List Byte} {s : State}

/-- With room the data is consumed and the output sent (R146). -/
theorem ctrDataCommand_of_room (hvalid : s.ctrValid = true) (hroom : s.wouldExhaust data.length = false) :
    ctrDataCommand S data s = (ctrXor S data s).2.respond (ctrXor S data s).1 := by
  simp [ctrDataCommand_eq, hvalid, hroom]

/-- Without room nothing is consumed (R146, R208). -/
theorem ctrDataCommand_of_no_room (hvalid : s.ctrValid = true) (hroom : s.wouldExhaust data.length = true) :
    ctrDataCommand S data s = s.raiseFault .ctrExhausted := by
  simp [ctrDataCommand_eq, hvalid, hroom]

/-- Empty data needs no block, from any position (R146). -/
theorem ctrDataCommand_nil (hvalid : s.ctrValid = true) : ctrDataCommand S [] s = s.respond [] :=
  ctrDataCommand_of_room S hvalid (by simp [State.wouldExhaust, State.refillsNeeded])

/-- The output frame goes after what has been sent (R62). -/
theorem ctrXor_respond_respPort :
    ((ctrXor S data s).2.respond (ctrXor S data s).1).respPort =
      s.respPort ++ (0x00 :: bytes24 data.length ++ (ctrXor S data s).1) := by
  obtain ⟨-, hresp, -⟩ := ctrXor_samePorts S data s
  rw [respond_of_length _ (ctrXor_length S data s), hresp]

end outcomes

/-- Settles O44: the next state is that of the streaming XOR, and its position determines `CTR` and `CUR`. -/
theorem ctrDataCommandsXorWithTheKeystream : Obligations.CtrDataCommandsXorWithTheKeystream := by
  intro s data hinv hvalid hend
  have hrange := hinv.inRange hvalid
  have hpos := ctrXor_position_eq Config.sbox data hrange
  obtain ⟨hboundary, hinside⟩ := (inRange_ctrXor Config.sbox data hrange hend).ctr_cur_of_position
  have hnext : ctrDataCommand Config.sbox data s = { s with
      ctr := (ctrXor Config.sbox data s).2.ctr, ks := (ctrXor Config.sbox data s).2.ks,
      cur := (ctrXor Config.sbox data s).2.cur,
      respPort := s.respPort ++ (0x00 :: bytes24 data.length ++ (ctrXor Config.sbox data s).1) } := by
    rw [ctrDataCommand_of_room _ hvalid (hrange.room hend), respond_of_length _ (ctrXor_length _ data s), ctrXor_frame]
  refine ⟨(ctrXor Config.sbox data s).1, _, _, _, congrArg _ hnext, congrArg _ hnext, ctrXor_length _ data s,
    ctrXor_output _ data s hrange.cur_le hrange.one_le_ctr, hpos, ?_, fun _ => ?_, fun _ => ?_⟩
  · rintro rfl
    exact ⟨rfl, rfl, rfl⟩
  · rwa [hpos] at hboundary
  · rwa [hpos] at hinside

/-- A data command never moves `CTR` back, nor above `2^64` (R143). -/
theorem ctrDataCommand_ctr_bounds (S : Sbox) (data : List Byte) {s : State} (hvalid : s.ctrValid = true)
    (hrange : s.InRange) : s.ctr ≤ (ctrDataCommand S data s).ctr ∧ (ctrDataCommand S data s).ctr ≤ 2 ^ 64 := by
  by_cases hend : s.position + data.length ≤ 24 * 2 ^ 64
  · rw [ctrDataCommand_of_room S hvalid (hrange.room hend)]
    exact ⟨le_ctrXor_ctr S data s, (inRange_ctrXor S data hrange hend).ctr_le⟩
  · rw [ctrDataCommand_of_no_room S hvalid
      ((wouldExhaust_iff s _ hrange.cur_le hrange.ctr_le hrange.one_le_ctr).mpr (not_le.mp hend))]
    exact ⟨le_rfl, hrange.ctr_le⟩

/-- Settles O46: the outcomes of the operation that both commands are. -/
theorem exhaustionIsRefusedWhole : Obligations.ExhaustionIsRefusedWhole := by
  intro s data hinv hvalid
  have hrange := hinv.inRange hvalid
  simp only [exec_ctrEncrypt, exec_ctrDecrypt, Host.Outcome.next.injEq, forall_eq', and_self]
  refine ⟨fun hpast => ?_, fun hend => ?_, ctrDataCommand_nil _ hvalid, ctrDataCommand_ctr_bounds _ data hvalid hrange⟩
  · exact ctrDataCommand_of_no_room _ hvalid
      ((wouldExhaust_iff s _ hrange.cur_le hrange.ctr_le hrange.one_le_ctr).mpr hpast)
  · refine ⟨_, (ctrXor Config.sbox data s).1, rfl, ?_⟩
    rw [ctrDataCommand_of_room _ hvalid (hrange.room hend), ctrXor_respond_respPort]

/-! ### Data under the keystream at the position (R141, R150, R151, R152) -/

/-- Data XORed with the keystream from byte `p` on (R141, R151). -/
def keystreamXor (S : Sbox) (km : Vector Word 72) (kr : Vector Rot 72) (nonce : Vector Byte 16) (p : Nat)
    (data : List Byte) : List Byte :=
  data.mapIdx fun i b => b ^^^ keystreamByte S km kr nonce (p + i)

section keystreamXor

variable (S : Sbox) (km : Vector Word 72) (kr : Vector Rot 72) (nonce : Vector Byte 16) (p : Nat) (data : List Byte)

@[simp] theorem keystreamXor_length : (keystreamXor S km kr nonce p data).length = data.length := by
  simp [keystreamXor]

theorem keystreamXor_getD {i : Nat} (hi : i < data.length) :
    (keystreamXor S km kr nonce p data).getD i 0 = data.getD i 0 ^^^ keystreamByte S km kr nonce (p + i) := by
  simp [keystreamXor, hi]

/-- The same keystream bytes a second time give the data back (R152). -/
theorem keystreamXor_keystreamXor :
    keystreamXor S km kr nonce p (keystreamXor S km kr nonce p data) = data := by
  apply List.ext_getElem
  · simp
  · intro i _ _
    simp [keystreamXor]

end keystreamXor

/-- A byte of a current buffer is the keystream byte at its position (R36, R151). -/
theorem buffered_byte_of_current {S : Sbox} {s : State} (hrange : s.InRange) (hcurrent : s.BufferCurrent S) {i : Nat}
    (hi : i < 24 - s.cur) :
    s.ks.toList.getD (s.cur + i) 0 = keystreamByte S s.km s.kr s.nonce (s.position + i) := by
  have hcur : s.cur < 24 := by omega
  have hctr := hrange.one_le_ctr hcur
  have hblock : (s.position + i) / 24 = s.ctr - 1 := by rw [State.position]; omega
  have hbyte : (s.position + i) % 24 = s.cur + i := by rw [State.position]; omega
  rw [keystreamByte_eq_getD, hblock, hbyte, hcurrent hcur]

/-- While the buffer is current, the output is the data under the keystream at the position (R151). -/
theorem ctrXor_eq_keystreamXor {S : Sbox} (data : List Byte) {s : State} (hrange : s.InRange)
    (hcurrent : s.BufferCurrent S) :
    (ctrXor S data s).1 = keystreamXor S s.km s.kr s.nonce s.position data := by
  apply List.ext_getElem
  · simp
  · intro i hi hi'
    rw [ctrXor_length] at hi
    have hout := ctrXor_output S data s hrange.cur_le hrange.one_le_ctr i hi
    rw [← List.getD_eq_getElem _ 0, ← List.getD_eq_getElem _ 0, hout, keystreamXor_getD _ _ _ _ _ _ hi]
    split_ifs with hbuffered
    · rw [buffered_byte_of_current hrange hcurrent hbuffered]
    · rfl

/-- Settles O45. -/
theorem outputIsDataXorKeystreamAtPosition : Obligations.OutputIsDataXorKeystreamAtPosition := by
  intro s data hinv hvalid hcurrent hend
  have hrange := hinv.inRange hvalid
  refine ⟨(ctrXor Config.sbox data s).2.respond (ctrXor Config.sbox data s).1,
    keystreamXor Config.sbox s.km s.kr s.nonce s.position data, ?_, ?_, keystreamXor_length .., fun i hi =>
      keystreamXor_getD _ _ _ _ _ _ hi, ctrXor_position_eq Config.sbox data hrange, bufferCurrent_ctrXor data hcurrent⟩
  · rw [exec_ctrEncrypt, ctrDataCommand_of_room _ hvalid (hrange.room hend)]
  · rw [ctrXor_respond_respPort, ctrXor_eq_keystreamXor data hrange hcurrent]

/-- A seek and a data command answer the data under the keystream from the seek's block on, and leave the keys, the nonce
and the flag (R150). -/
theorem execAll_seek_data {i : Instr} {c data : List Byte} {s : State}
    (hi : i = .ctrEncrypt data ∨ i = .ctrDecrypt data) (hvalid : s.ctrValid = true) (hseek : beInt c < 2 ^ 64)
    (hend : 24 * beInt c + data.length ≤ 24 * 2 ^ 64) (is : List Instr) :
    ∃ t, execAll (.ctrSeek c :: i :: is) s = execAll is t ∧
      t.respPort = s.respPort ++ [0x00, 0x00, 0x00, 0x00] ++
        (0x00 :: bytes24 data.length ++ keystreamXor Config.sbox s.km s.kr s.nonce (24 * beInt c) data) ∧
      t.km = s.km ∧ t.kr = s.kr ∧ t.nonce = s.nonce ∧ t.ctrValid = true := by
  have hsought : exec (.ctrSeek c) s = .next ((s.moveTo (beInt c)).respond []) := by
    rw [exec_ctrSeek, ctrSeekCommand_of_range hvalid hseek]
  have hpos : ((s.moveTo (beInt c)).respond []).position = 24 * beInt c := moveTo_position s (beInt c)
  have hrange : ((s.moveTo (beInt c)).respond []).InRange := ⟨by simp, by simp, hseek.le, by simp⟩
  have hcurrent : ((s.moveTo (beInt c)).respond []).BufferCurrent Config.sbox := bufferCurrent_of_empty rfl
  have hroom := hrange.room (len := data.length) (by rwa [hpos])
  have hdone := exec_ctrData hi ((s.moveTo (beInt c)).respond [])
  rw [ctrDataCommand_of_room _ (by simpa using hvalid) hroom] at hdone
  refine ⟨_, by rw [execAll_cons hsought, execAll_cons hdone], ?_, by simp [hvalid]⟩
  rw [ctrXor_respond_respPort, ctrXor_eq_keystreamXor data hrange hcurrent, hpos]
  rfl

/-- Settles O49. -/
theorem seekThenEncryptUsesTheKeystreamAtTheBlock : Obligations.SeekThenEncryptUsesTheKeystreamAtTheBlock := by
  intro s c data hvalid hseek hend
  obtain ⟨t, hrun, hresp, -⟩ := execAll_seek_data (.inl rfl) hvalid hseek hend []
  exact ⟨t, _, hrun, hresp, keystreamXor_length .., fun i hi => keystreamXor_getD _ _ _ _ _ _ hi⟩

/-- Settles O50: both data commands XOR with the same keystream bytes. -/
theorem decryptFromTheSamePositionGivesTheDataBack : Obligations.DecryptFromTheSamePositionGivesTheDataBack := by
  intro s c data hvalid hseek hend
  obtain ⟨out, hout⟩ : ∃ out, keystreamXor Config.sbox s.km s.kr s.nonce (24 * beInt c) data = out := ⟨_, rfl⟩
  have hlen : out.length = data.length := by rw [← hout, keystreamXor_length]
  obtain ⟨t, hrun, hresp, hkm, hkr, hnonce, htvalid⟩ :=
    execAll_seek_data (.inl rfl) hvalid hseek hend [.ctrSeek c, .ctrDecrypt out]
  obtain ⟨v, hrun', hresp', -⟩ := execAll_seek_data (data := out) (.inr rfl) htvalid hseek (by rwa [hlen]) []
  refine ⟨v, out, hrun.trans hrun', ?_⟩
  rw [hresp', hresp, hkm, hkr, hnonce, hlen, ← hout, keystreamXor_keystreamXor]

/-! ### Streaming in chunks (R149) -/

/-- There is room for data within the buffer, and for data whose refills end at block `2^64` (R146). The position may be
out of range: streaming in chunks is asked of such states too. -/
theorem wouldExhaust_eq_false_iff (s : State) (len : Nat) :
    s.wouldExhaust len = false ↔ len ≤ 24 - s.cur ∨ s.ctr + (len - (24 - s.cur) + 23) / 24 ≤ 2 ^ 64 := by
  by_cases hbuffered : len ≤ 24 - s.cur
  · simp [State.wouldExhaust, State.refillsNeeded, State.available, hbuffered]
  · have hrefills : s.refillsNeeded len = (len - (24 - s.cur) + 23) / 24 := by
      simp [State.refillsNeeded, State.available, hbuffered]
    rw [State.wouldExhaust, hrefills, Bool.and_eq_false_iff, decide_eq_false_iff_not, decide_eq_false_iff_not]
    have hlimit : Config.ctrLimit = 2 ^ 64 := rfl
    omega

/-- Where there is room for some data there is room for less. -/
theorem wouldExhaust_of_le {s : State} {m n : Nat} (hle : m ≤ n) (hroom : s.wouldExhaust n = false) :
    s.wouldExhaust m = false := by
  rw [wouldExhaust_eq_false_iff] at hroom ⊢
  omega

/-- A consumed byte takes the room of one byte, its refill included. -/
theorem wouldExhaust_consume (S : Sbox) {s : State} {n : Nat} (hroom : s.wouldExhaust (n + 1) = false) :
    (s.refillIfEmpty S).advance.wouldExhaust n = false := by
  rw [wouldExhaust_eq_false_iff] at hroom ⊢
  obtain ⟨hempty, ht, -⟩ | ⟨hbuffered, ht, -⟩ := consume_cases S s <;>
  · simp only [ht]
    omega

/-- Consumed data takes the room of its length. -/
theorem wouldExhaust_ctrXor (S : Sbox) (data : List Byte) {s : State} {n : Nat}
    (hroom : s.wouldExhaust (data.length + n) = false) : (ctrXor S data s).2.wouldExhaust n = false := by
  induction data generalizing s with
  | nil => simpa [ctrXor] using hroom
  | cons b data ih =>
    rw [ctrXor]
    refine ih (wouldExhaust_consume S ?_)
    rwa [List.length_cons, Nat.add_right_comm] at hroom

/-- A refill does not read what has been sent on the response port. -/
theorem refillIfEmpty_send (S : Sbox) (frame : List Byte) (s : State) :
    (s.send frame).refillIfEmpty S = (s.refillIfEmpty S).send frame := by
  by_cases hcur : s.cur = 24 <;> simp [State.refillIfEmpty, hcur, State.refill, State.send]

/-- The streaming XOR does not read what has been sent on the response port. -/
theorem ctrXor_send (S : Sbox) (data frame : List Byte) (s : State) :
    ctrXor S data (s.send frame) = ((ctrXor S data s).1, (ctrXor S data s).2.send frame) := by
  induction data generalizing s with
  | nil => rfl
  | cons b data ih =>
    have hadvance : ((s.refillIfEmpty S).send frame).advance = (s.refillIfEmpty S).advance.send frame := rfl
    simp only [ctrXor, refillIfEmpty_send, hadvance, ih]
    rfl

/-- Chunks whose data fits in the room leave the registers of one streaming XOR over all of it, and send their pieces of
its output, each in a frame of its own (R149). -/
theorem execAll_chunks (chunks : List (Bool × List Byte)) {s : State} (hvalid : s.ctrValid = true)
    (hroom : s.wouldExhaust (chunks.flatMap (·.2)).length = false) :
    ∃ outs : List (List Byte),
      execAll (chunks.map fun c => if c.1 then .ctrEncrypt c.2 else .ctrDecrypt c.2) s =
        .next ((ctrXor Config.sbox (chunks.flatMap (·.2)) s).2.send (outs.flatMap (responseFrame statusOk))) ∧
      outs.map List.length = chunks.map (·.2.length) ∧
      outs.flatten = (ctrXor Config.sbox (chunks.flatMap (·.2)) s).1 := by
  induction chunks generalizing s with
  | nil => exact ⟨[], by simp [execAll, ctrXor, State.send], rfl, rfl⟩
  | cons c chunks ih =>
    rw [List.flatMap_cons] at hroom ⊢
    rw [List.length_append] at hroom
    have hfirst : s.wouldExhaust c.2.length = false := wouldExhaust_of_le (Nat.le_add_right _ _) hroom
    have hexec : exec (if c.1 then .ctrEncrypt c.2 else .ctrDecrypt c.2) s =
        .next ((ctrXor Config.sbox c.2 s).2.respond (ctrXor Config.sbox c.2 s).1) := by
      rw [exec_ctrData (data := c.2) (by cases c.1 <;> simp), ctrDataCommand_of_room _ hvalid hfirst]
    obtain ⟨outs, hrun, hlens, hflat⟩ :=
      ih (s := (ctrXor Config.sbox c.2 s).2.respond (ctrXor Config.sbox c.2 s).1) (by simpa using hvalid)
        (wouldExhaust_ctrXor Config.sbox c.2 hroom)
    rw [State.respond, ctrXor_send] at hrun hflat
    refine ⟨(ctrXor Config.sbox c.2 s).1 :: outs, ?_, by simp [hlens], ?_⟩
    · rw [List.map_cons, execAll_cons hexec, State.respond, hrun, ctrXor_append]
      simp [State.send]
    · rw [List.flatten_cons, hflat, ctrXor_append]

/-- Settles O48: the one command is not refused, so there is room for all its chunks. -/
theorem chunksStreamLikeOneCommand : Obligations.ChunksStreamLikeOneCommand := by
  intro s u chunks out hvalid hexec hresp
  rw [exec_ctrEncrypt, Host.Outcome.next.injEq] at hexec
  cases hroom : s.wouldExhaust (chunks.flatMap (·.2)).length with
  | true =>
    rw [ctrDataCommand_of_no_room _ hvalid hroom] at hexec
    subst hexec
    obtain ⟨hstatus, -⟩ := List.cons_eq_cons.mp (List.append_cancel_left hresp)
    exact absurd hstatus (status_range _).1
  | false =>
    rw [ctrDataCommand_of_room _ hvalid hroom] at hexec
    subst hexec
    obtain ⟨outs, hrun, hlens, hflat⟩ := execAll_chunks chunks hvalid hroom
    refine ⟨_, outs, hrun, hlens, hflat.trans ?_, ?_, rfl, fun _ => rfl⟩
    · rw [ctrXor_respond_respPort] at hresp
      exact List.append_cancel_left (List.append_cancel_left hresp)
    · obtain ⟨-, hsent, -⟩ := ctrXor_samePorts Config.sbox (chunks.flatMap (·.2)) s
      rw [State.send_respPort, hsent]
      rfl

end Sys2Proof.Machine
end

section
/-! The commands that only answer (R165 to R179): RD_KM and RD_KR, and the validation commands, whose one response is
fixed by the payload alone. -/

namespace Sys2Proof.Machine

open Sys2Proof

/-! ### The two outcomes of a validation command (R62, R178, R204) -/

/-- An answer is sent as the response frame of its payload, `n` bytes long (R62). -/
theorem answer_ok_of_length (s : State) {p : List Byte} {n : Nat} (h : p.length = n) :
    s.answer (.ok p) = { s with respPort := s.respPort ++ (0x00 :: bytes24 n ++ p) } :=
  respond_of_length s h

/-- A refusal is sent as the four bytes of its fault (R204). -/
theorem answer_error (s : State) (f : EngineFault) :
    s.answer (.error f) = { s with respPort := s.respPort ++ [f.status, 0x00, 0x00, 0x00] } :=
  raiseFault_eq s f

/-- What is sent is fixed by the answer: the frame does not depend on the state (R178). -/
theorem answer_frame (a : Except EngineFault (List Byte)) : ∃ frame, ∀ s : State, s.answer a = s.send frame := by
  cases a with
  | ok p => exact ⟨responseFrame statusOk p, fun _ => rfl⟩
  | error f => exact ⟨responseFrame f.status [], fun _ => rfl⟩

/-- The commands of opcode 0x30 and above are the validation commands: each sends one answer, chosen before any state is
looked at (R65, R178). -/
theorem exec_of_validation_opcode {i : Instr} (hopcode : 0x30 ≤ i.opcode.toNat) :
    ∃ a, ∀ s, exec i s = .next (s.answer a) := by
  cases i with
  | genSched p => exact ⟨_, fun _ => rfl⟩
  | genRk p => exact ⟨_, fun _ => rfl⟩
  | dodecad p => exact ⟨_, fun _ => rfl⟩
  | hexad p => exact ⟨_, fun _ => rfl⟩
  | hexadInv p => exact ⟨_, fun _ => rfl⟩
  | f1 p => exact ⟨_, fun _ => rfl⟩
  | f2 p => exact ⟨_, fun _ => rfl⟩
  | f3 p => exact ⟨_, fun _ => rfl⟩
  | f4 p => exact ⟨_, fun _ => rfl⟩
  | f5 p => exact ⟨_, fun _ => rfl⟩
  | f6 p => exact ⟨_, fun _ => rfl⟩
  | _ => simp [Instr.opcode] at hopcode

theorem exec_rdKm_eq (p : List Byte) (s : State) :
    exec (.rdKm p) s = .next (readStoreCommand (fun s => s.km.toList) p s) := rfl

theorem exec_rdKr_eq (p : List Byte) (s : State) :
    exec (.rdKr p) s = .next (readStoreCommand (fun s => s.kr.toList.map rotWord) p s) := rfl

/-- Settles O15: the frame is that of the command's one answer. -/
theorem validationCommandsArePure : Obligations.ValidationCommandsArePure := by
  refine ⟨fun i hopcode => ?_, fun p s => ⟨?_, ?_⟩⟩
  · obtain ⟨a, hexec⟩ := exec_of_validation_opcode hopcode
    obtain ⟨frame, hsend⟩ := answer_frame a
    exact ⟨frame, fun s => (hexec s).trans (congrArg _ (hsend s))⟩
  · obtain ⟨frame, hsend⟩ := readStoreCommand_eq_send (fun s => s.km.toList) p s
    exact ⟨frame, (exec_rdKm_eq p s).trans (congrArg _ hsend)⟩
  · obtain ⟨frame, hsend⟩ := readStoreCommand_eq_send (fun s => s.kr.toList.map rotWord) p s
    exact ⟨frame, (exec_rdKr_eq p s).trans (congrArg _ hsend)⟩

/-! ### RD_KM and RD_KR (R165, R166) -/

/-- Without a key there is no store to read (R203). -/
theorem readStoreCommand_of_not_keyed (store : State → List Word) {s : State} (hkeyed : s.keyValid = false) :
    readStoreCommand store [] s = { s with respPort := s.respPort ++ [0x03, 0x00, 0x00, 0x00] } := by
  rw [readStoreCommand_eq, if_neg (by simp), if_pos hkeyed]
  rfl

/-- A payload is refused, key or not (R202, R209). -/
theorem readStoreCommand_of_payload (store : State → List Word) {p : List Byte} (s : State) (hp : p ≠ []) :
    readStoreCommand store p s = { s with respPort := s.respPort ++ [0x02, 0x00, 0x00, 0x00] } := by
  rw [readStoreCommand_eq, if_pos (by simpa using hp)]
  rfl

/-- Settles O40: the two stores are written as word sequences, and word `i` is read back at offset `4 * i`. -/
theorem readCommandsAnswerTheRoundKeyStore : Obligations.ReadCommandsAnswerTheRoundKeyStore := by
  refine fun s => ⟨fun hkeyed => ?_, fun hkeyed => ⟨?_, ?_⟩, fun p hp => ⟨?_, ?_⟩⟩
  · have hkm : (bytes s.km.toList).length = 288 := by simp
    have hkr : (bytes (s.kr.toList.map rotWord)).length = 288 := by simp
    refine ⟨_, _, (exec_rdKm hkeyed).trans (congrArg _ (respond_of_length s hkm)),
      (exec_rdKr hkeyed).trans (congrArg _ (respond_of_length s hkr)), hkm, hkr, fun i hi => ⟨?_, ?_⟩⟩
    · rw [wordAt_bytes_self _ i (by simpa using hi)]
      simp
    · rw [wordAt_bytes_self _ i (by simpa using hi)]
      simp [rotWord_toNat]
  · rw [exec_rdKm_eq, readStoreCommand_of_not_keyed _ hkeyed]
  · rw [exec_rdKr_eq, readStoreCommand_of_not_keyed _ hkeyed]
  · rw [exec_rdKm_eq, readStoreCommand_of_payload _ s hp]
  · rw [exec_rdKr_eq, readStoreCommand_of_payload _ s hp]

/-! ### GEN_RK (R168) -/

theorem exec_genRk (p : List Byte) (s : State) : exec (.genRk p) s = .next (s.answer (genRkAnswer Config.sbox p)) := rfl

/-- GEN_RK of fewer than the two bytes `r` and `d` is refused (R168). -/
theorem genRkAnswer_badLength (S : Sbox) {p : List Byte} (h : p.length < 2) : genRkAnswer S p = .error .badLength := by
  simp [genRkAnswer, operandsPK, legalLen, not_le.mpr h]

/-- GEN_RK of two bytes and a key, which may be empty, answers the round keys of the three (R168). -/
theorem genRkAnswer_cons (S : Sbox) (r d : Byte) (key : List Byte) :
    genRkAnswer S (r :: d :: key) = .ok (pairBytes (genRoundKeys S key r.toNat d.toNat)) := by
  simp [genRkAnswer, operandsPK, legalLen]

/-- Settles O31. -/
theorem genRkAnswersTheRoundKeys : Obligations.GenRkAnswersTheRoundKeys := by
  refine ⟨fun p s hlen => ?_, fun r d key s =>
    ⟨genRoundKeys_fst_length _ key _ _, genRoundKeys_snd_length _ key _ _, ?_⟩⟩
  · rw [exec_genRk, genRkAnswer_badLength _ hlen, answer_error]
    rfl
  · have hanswer := genRkAnswer_cons Config.sbox r d key
    rw [exec_genRk, hanswer, answer_ok_of_length s (genRkAnswer_length hanswer)]
    rfl

/-! ### Operands in three equal parts, and the rotation words among them (R64, R206) -/

/-- Three word sequences written one after the other are read back at their offsets (R41, R64). -/
theorem wordsAt_three_parts {n : Nat} (a b c : Vector Word n) :
    let p := bytes a.toList ++ bytes b.toList ++ bytes c.toList
    wordsAt n p 0 = a ∧ wordsAt n p (4 * n) = b ∧ wordsAt n p (8 * n) = c := by
  refine ⟨?_, ?_, ?_⟩
  · simpa using wordsAt_bytes a [] (bytes b.toList ++ bytes c.toList)
  · simpa using wordsAt_bytes b (bytes a.toList) (bytes c.toList)
  · have hoffset : (bytes a.toList ++ bytes b.toList).length = 8 * n := by
      simp only [List.length_append, bytes_length, Vector.length_toList]
      omega
    simpa only [hoffset, List.append_nil] using wordsAt_bytes c (bytes a.toList ++ bytes b.toList) []

/-- The rotation words of a payload are refused exactly when one of them is above 31 (R206). -/
theorem rotOperands_wordsAt_eq_none_iff {n : Nat} (p : List Byte) (off : Nat) :
    rotOperands (wordsAt n p off) = none ↔ ∃ j, j < n ∧ 31 < (wordAt p (off + 4 * j)).toNat := by
  simp [rotOperands_eq_none_iff, wordsAt]

/-! ### DODECAD (R169) -/

theorem exec_dodecad (p : List Byte) (s : State) :
    exec (.dodecad p) s = .next (s.answer (dodecadAnswer Config.sbox p)) := rfl

/-- DODECAD of a block, masking words and rotation amounts answers the dodecad of these (R169). -/
theorem dodecadAnswer_operands (S : Sbox) (k tm : Vector Word 12) (tr : Vector Rot 12) :
    dodecadAnswer S (bytes k.toList ++ bytes tm.toList ++ bytes (tr.toList.map rotWord)) =
      .ok (bytes (dodecad S k tm tr).toList) := by
  obtain ⟨hk, htm, htr⟩ := wordsAt_three_parts k tm (tr.map rotWord)
  rw [← Vector.toList_map, dodecadAnswer_eq, if_neg (by simp), hk, htm, htr, rotOperands_rotWord]

theorem dodecadAnswer_badLength (S : Sbox) {p : List Byte} (h : p.length ≠ 144) :
    dodecadAnswer S p = .error .badLength := by
  rw [dodecadAnswer_eq, if_pos h]

theorem dodecadAnswer_badOperand (S : Sbox) {p : List Byte} (h : p.length = 144)
    (hrot : ∃ j, j < 12 ∧ 31 < (wordAt p (96 + 4 * j)).toNat) : dodecadAnswer S p = .error .badOperand := by
  rw [dodecadAnswer_eq, if_neg (not_not.mpr h), (rotOperands_wordsAt_eq_none_iff p 96).mpr hrot]

/-- Settles O29. -/
theorem dodecadCommandAnswersTheNewBlock : Obligations.DodecadCommandAnswersTheNewBlock := by
  refine ⟨fun k tm tr s => ?_, fun p s => ⟨fun hlen => ?_, fun hlen hrot => ?_⟩⟩
  · rw [exec_dodecad, dodecadAnswer_operands, answer_ok_of_length s (n := 48) (by simp)]
    rfl
  · rw [exec_dodecad, dodecadAnswer_badLength _ hlen, answer_error]
    rfl
  · rw [exec_dodecad, dodecadAnswer_badOperand _ hlen hrot, answer_error]
    rfl

/-! ### HEXAD and HEXADINV (R170, R171) -/

theorem exec_hexad (p : List Byte) (s : State) :
    exec (.hexad p) s = .next (s.answer (hexadAnswer (hexad Config.sbox) p)) := rfl

theorem exec_hexadInv (p : List Byte) (s : State) :
    exec (.hexadInv p) s = .next (s.answer (hexadAnswer (hexadInv Config.sbox) p)) := rfl

section hexads

variable (round : Vector Word 6 → Vector Word 6 → Vector Rot 6 → Vector Word 6) {p : List Byte}

/-- The answer to six words, masking words and rotation amounts is the round function of these (R170, R171). -/
theorem hexadAnswer_operands (w km : Vector Word 6) (kr : Vector Rot 6) :
    hexadAnswer round (bytes w.toList ++ bytes km.toList ++ bytes (kr.toList.map rotWord)) =
      .ok (bytes (round w km kr).toList) := by
  obtain ⟨hw, hkm, hkr⟩ := wordsAt_three_parts w km (kr.map rotWord)
  rw [← Vector.toList_map, hexadAnswer_eq, if_neg (by simp), hw, hkm, hkr, rotOperands_rotWord]

theorem hexadAnswer_badLength (h : p.length ≠ 72) : hexadAnswer round p = .error .badLength := by
  rw [hexadAnswer_eq, if_pos h]

theorem hexadAnswer_badOperand (h : p.length = 72) (hrot : ∃ j, j < 6 ∧ 31 < (wordAt p (48 + 4 * j)).toNat) :
    hexadAnswer round p = .error .badOperand := by
  rw [hexadAnswer_eq, if_neg (not_not.mpr h), (rotOperands_wordsAt_eq_none_iff p 48).mpr hrot]

/-- Legal operands are answered with 24 bytes (R170, R171). -/
theorem answer_hexadAnswer_operands (w km : Vector Word 6) (kr : Vector Rot 6) (s : State) :
    s.answer (hexadAnswer round (bytes w.toList ++ bytes km.toList ++ bytes (kr.toList.map rotWord))) =
      { s with respPort := s.respPort ++ ([0x00, 0x00, 0x00, 0x18] ++ bytes (round w km kr).toList) } := by
  rw [hexadAnswer_operands, answer_ok_of_length s (n := 24) (by simp)]
  rfl

/-- A wrong length, or the right length and a rotation word above 31, is refused with its status code (R202, R206). -/
theorem answer_hexadAnswer_refused {status : Byte} (s : State)
    (h : (p.length ≠ 72 ∧ status = 0x02) ∨
      (p.length = 72 ∧ (∃ j, j < 6 ∧ 31 < (wordAt p (48 + 4 * j)).toNat) ∧ status = 0x05)) :
    s.answer (hexadAnswer round p) = { s with respPort := s.respPort ++ [status, 0x00, 0x00, 0x00] } := by
  obtain ⟨hlen, rfl⟩ | ⟨hlen, hrot, rfl⟩ := h
  · rw [hexadAnswer_badLength _ hlen, answer_error]
    rfl
  · rw [hexadAnswer_badOperand _ hlen hrot, answer_error]
    rfl

end hexads

/-- Settles O37: the body that the two commands share, at the two round functions. -/
theorem hexadCommandsAnswerTheRoundFunctions : Obligations.HexadCommandsAnswerTheRoundFunctions := by
  refine ⟨fun w km kr s => ⟨?_, ?_⟩, fun p s status hrefused => ⟨?_, ?_⟩⟩
  · rw [exec_hexad, answer_hexadAnswer_operands]
  · rw [exec_hexadInv, answer_hexadAnswer_operands]
  · rw [exec_hexad, answer_hexadAnswer_refused _ s hrefused]
  · rw [exec_hexadInv, answer_hexadAnswer_refused _ s hrefused]

/-! ### F1 to F6 (R172 to R177, R179) -/

theorem exec_f1 (p : List Byte) (s : State) : exec (.f1 p) s = .next (s.answer (fAnswer (F1 Config.sbox) p)) := rfl

theorem exec_f2 (p : List Byte) (s : State) : exec (.f2 p) s = .next (s.answer (fAnswer (F2 Config.sbox) p)) := rfl

theorem exec_f3 (p : List Byte) (s : State) : exec (.f3 p) s = .next (s.answer (fAnswer (F3 Config.sbox) p)) := rfl

theorem exec_f4 (p : List Byte) (s : State) : exec (.f4 p) s = .next (s.answer (fAnswer (F4 Config.sbox) p)) := rfl

theorem exec_f5 (p : List Byte) (s : State) : exec (.f5 p) s = .next (s.answer (fAnswer (F5 Config.sbox) p)) := rfl

theorem exec_f6 (p : List Byte) (s : State) : exec (.f6 p) s = .next (s.answer (fAnswer (F6 Config.sbox) p)) := rfl

section combine

variable (f : Word → Word → Rot → Word) {p : List Byte}

/-- The answer to a data word, a masking word and a rotation amount is the combine function of these (R179). -/
theorem fAnswer_operands (d km : Word) (kr : Rot) :
    fAnswer f (bytes [d, km, rotWord kr]) = .ok (bytes32 (f d km kr)) := by
  have hd : wordAt (bytes [d, km, rotWord kr]) 0 = d := wordAt_bytes_self [d, km, rotWord kr] 0 (by simp)
  have hkm : wordAt (bytes [d, km, rotWord kr]) 4 = km := wordAt_bytes_self [d, km, rotWord kr] 1 (by simp)
  have hkr : wordAt (bytes [d, km, rotWord kr]) 8 = rotWord kr := wordAt_bytes_self [d, km, rotWord kr] 2 (by simp)
  have hlegal : ¬ 31 < (rotWord kr).toNat := by
    rw [rotWord_toNat]
    omega
  rw [fAnswer_eq, if_neg (by simp), hd, hkm, hkr, if_neg hlegal, rotOf_rotWord]

theorem fAnswer_badLength (h : p.length ≠ 12) : fAnswer f p = .error .badLength := by
  rw [fAnswer_eq, if_pos h]

/-- A rotation word above 31 is refused, not reduced modulo 32 (R179). -/
theorem fAnswer_badOperand (h : p.length = 12) (hrot : 31 < (wordAt p 8).toNat) :
    fAnswer f p = .error .badOperand := by
  rw [fAnswer_eq, if_neg (not_not.mpr h), if_pos hrot]

/-- Legal operands are answered with one word (R179). -/
theorem answer_fAnswer_operands (d km : Word) (kr : Rot) (s : State) :
    s.answer (fAnswer f (bytes [d, km, rotWord kr])) =
      { s with respPort := s.respPort ++ ([0x00, 0x00, 0x00, 0x04] ++ bytes32 (f d km kr)) } := by
  rw [fAnswer_operands, answer_ok_of_length s (bytes32_length _)]
  rfl

/-- A wrong length, or the right length and a rotation word above 31, is refused with its status code (R202, R206). -/
theorem answer_fAnswer_refused {status : Byte} (s : State)
    (h : (p.length ≠ 12 ∧ status = 0x02) ∨ (p.length = 12 ∧ 31 < (wordAt p 8).toNat ∧ status = 0x05)) :
    s.answer (fAnswer f p) = { s with respPort := s.respPort ++ [status, 0x00, 0x00, 0x00] } := by
  obtain ⟨hlen, rfl⟩ | ⟨hlen, hrot, rfl⟩ := h
  · rw [fAnswer_badLength _ hlen, answer_error]
    rfl
  · rw [fAnswer_badOperand _ hlen hrot, answer_error]
    rfl

end combine

/-- Settles O21: the template that the six commands share, at the six combine functions, which are by definition the
words written out. -/
theorem fCommandsAnswerTheCombineFunctions : Obligations.FCommandsAnswerTheCombineFunctions := by
  refine ⟨fun d km kr s => ?_, fun p s status hrefused => ?_⟩
  · have hanswer (f : Word → Word → Rot → Word) := answer_fAnswer_operands f d km kr s
    simp only [exec_f1, exec_f2, exec_f3, exec_f4, exec_f5, exec_f6, hanswer]
    exact ⟨rfl, rfl, rfl, rfl, rfl, rfl⟩
  · have hanswer (f : Word → Word → Rot → Word) := answer_fAnswer_refused f s hrefused
    simp only [exec_f1, exec_f2, exec_f3, exec_f4, exec_f5, exec_f6, hanswer, and_self]

end Sys2Proof.Machine
end

section
/-! The printed candidate tables (R190, R191): the source's first concrete vector speaks of two words of the block after one
dodecad, and that dodecad runs as the spec's table of its twelve steps says. -/

namespace Sys2Proof.Machine

open Sys2Proof

/-- The sequences of round keys begin with word 11, and with the low five bits of word 0, of the block after the first
round's `d` dodecads (R106). -/
theorem roundKeysOf_succ_head? (κ : Nat → Vector Word 12) (d r : Nat) :
    (roundKeysOf κ d (r + 1)).1.head? = some (κ d)[11] ∧
      (roundKeysOf κ d (r + 1)).2.head? = some ((κ d)[0].setWidth 5) := by
  simp [roundKeysOf, List.range_succ_eq_map, extractKm, extractKr]

/-- The source's first vector constrains the block after one dodecad of the zero key, for any tables (R191). -/
theorem vec1_iff_engineBlock (S : Sbox) :
    Vec1 S ↔ (engineBlock S (List.replicate 48 0) 1)[11] = 0xED8CAEB7 ∧
      (engineBlock S (List.replicate 48 0) 1)[0].setWidth 5 = (31 : Rot) := by
  obtain ⟨hkm, hkr⟩ := roundKeysOf_succ_head? (engineBlock S (List.replicate 48 0)) 1 0
  rw [Vec1, genRoundKeys_eq_roundKeysOf, hkm, hkr, Option.some.injEq, Option.some.injEq]

/-- The twelve words of 48 zero bytes are 0 (R104). -/
theorem keyWords_replicate_zero : keyWords (List.replicate 48 0) = Vector.replicate 12 0 := by
  decide +kernel

/-- The twelve evaluations of the combine functions that one dodecad of the zero block makes with the candidate tables: the
rows of the spec's table of this dodecad (`95_test_vectors.md` L2.2), each reading the word of the row before. -/
theorem firstDodecad_rows_sboxCast128 :
    F1 sboxCast128 0x00000000 (tmEntry 0) (trEntry 0) = 0x2DE265B1 ∧
    F2 sboxCast128 0x2DE265B1 (tmEntry 1) (trEntry 1) = 0x7B235834 ∧
    F3 sboxCast128 0x7B235834 (tmEntry 2) (trEntry 2) = 0xAECF5626 ∧
    F4 sboxCast128 0xAECF5626 (tmEntry 3) (trEntry 3) = 0x17723858 ∧
    F5 sboxCast128 0x17723858 (tmEntry 4) (trEntry 4) = 0x812EE8A0 ∧
    F6 sboxCast128 0x812EE8A0 (tmEntry 5) (trEntry 5) = 0xCF97940C ∧
    F1 sboxCast128 0xCF97940C (tmEntry 6) (trEntry 6) = 0x31268C69 ∧
    F2 sboxCast128 0x31268C69 (tmEntry 7) (trEntry 7) = 0x6B47CC2C ∧
    F3 sboxCast128 0x6B47CC2C (tmEntry 8) (trEntry 8) = 0x48F7944E ∧
    F4 sboxCast128 0x48F7944E (tmEntry 9) (trEntry 9) = 0x2ECFD7D1 ∧
    F5 sboxCast128 0x2ECFD7D1 (tmEntry 10) (trEntry 10) = 0xF81B20BF ∧
    F6 sboxCast128 0xF81B20BF (tmEntry 11) (trEntry 11) = 0xED8CAEB7 := by
  decide +kernel

/-- The last two words that the first dodecad of the zero key writes: each step's word is the row's value, because the step
before has written the word that the row reads and the old word is 0 (R102). -/
theorem engineBlock_sboxCast128_zeroKey :
    (engineBlock sboxCast128 (List.replicate 48 0) 1)[0] = 0xF81B20BF ∧
      (engineBlock sboxCast128 (List.replicate 48 0) 1)[11] = 0xED8CAEB7 := by
  obtain ⟨row0, row1, row2, row3, row4, row5, row6, row7, row8, row9, row10, row11⟩ := firstDodecad_rows_sboxCast128
  obtain ⟨w10, w9, w8, w7, w6, w5, w4, w3, w2, w1, w0, w11⟩ := dodecadChainsEachWordIntoTheNext sboxCast128
    (Vector.replicate 12 0) (Vector.ofFn fun i => tmEntry i.val) (Vector.ofFn fun i => trEntry i.val)
  have hxor (w : Word) : 0 ^^^ w = w := BitVec.zero_xor
  simp only [Vector.getElem_replicate, Vector.getElem_ofFn, hxor] at w10 w9 w8 w7 w6 w5 w4 w3 w2 w1 w0 w11
  have hblock : engineBlock sboxCast128 (List.replicate 48 0) 1 =
      dodecad sboxCast128 (Vector.replicate 12 0) (Vector.ofFn fun i => tmEntry i.val)
        (Vector.ofFn fun i => trEntry i.val) := by
    simp only [engineBlock, chainBlock, keyWords_replicate_zero, Nat.mul_zero, Nat.zero_add]
  rw [hblock, w11, w0, w1, w2, w3, w4, w5, w6, w7, w8, w9, w10, row0, row1, row2, row3, row4, row5, row6, row7, row8, row9,
    row10, row11]
  exact ⟨rfl, rfl⟩

/-- Settles O34: the two words that the vector speaks of are the last two rows of the dodecad's table. -/
theorem candidateTablesMeetTheFirstVector : Obligations.CandidateTablesMeetTheFirstVector := by
  obtain ⟨hword0, hword11⟩ := engineBlock_sboxCast128_zeroKey
  refine (vec1_iff_engineBlock sboxCast128).mpr ⟨hword11, ?_⟩
  rw [hword0]
  rfl

end Sys2Proof.Machine
end

section
/-! The faults of the engine (R200 to R209, R217): what a fault leaves unchanged, what decides it, and the two faults whose
rules say more, CTR_NOT_INIT (R205) and BAD_OPERAND (R206). -/

namespace Sys2Proof.Machine

open Sys2Proof

/-! ### A fault leaves no trace (R204) -/

/-- An answer with a status other than `OK` is that status and nothing else (R204). -/
theorem Answers.eq_of_status_ne_zero {n : Nat} {s t : State} {status : Byte} {p : List Byte} (h : Answers n s t)
    (hresp : t.respPort = s.respPort ++ responseFrame status p) (hne : status ≠ 0) :
    t = { s with respPort := s.respPort ++ [status, 0x00, 0x00, 0x00] } := by
  cases h with
  | @ok u q hports _ =>
    obtain ⟨-, hsent, -⟩ := hports
    rw [State.respond_respPort, hsent] at hresp
    obtain ⟨hok, -⟩ := response_payload_unique hresp
    exact absurd hok.symm hne
  | fault f =>
    obtain ⟨rfl, -⟩ := response_payload_unique hresp
    exact raiseFault_eq s f

/-- Settles O11: the step answers from the state that has consumed the frame. -/
theorem faultLeavesNoTrace : Obligations.FaultLeavesNoTrace := by
  intro s t f rest status p hline htake hstep hresp hne
  obtain ⟨n, _, -, hnext, hanswers⟩ := step_answers hline htake
  obtain rfl : _ = t := by simpa [hstep] using hnext.symm
  exact hanswers.eq_of_status_ne_zero hresp hne

/-! ### CTR_NOT_INIT (R205) -/

/-- The data commands and CTR_SEEK check `CTR_VALID` before anything else (R205, R209). -/
theorem exec_of_ctr_not_init {s : State} {i : Instr} (data : List Byte) (hinvalid : s.ctrValid = false)
    (hi : i ∈ [.ctrEncrypt data, .ctrDecrypt data, .ctrSeek data]) :
    exec i s = .next { s with respPort := s.respPort ++ [0x04, 0x00, 0x00, 0x00] } := by
  simp only [List.mem_cons, List.not_mem_nil, or_false] at hi
  obtain rfl | rfl | rfl := hi
  · rw [exec_ctrEncrypt, ctrDataCommand_eq, if_pos hinvalid]
    rfl
  · rw [exec_ctrDecrypt, ctrDataCommand_eq, if_pos hinvalid]
    rfl
  · rw [exec_ctrSeek, ctrSeekCommand_eq, if_pos hinvalid]
    rfl

/-- Settles O47: KEY_INIT does not write `CTR_VALID`, so the check that fails before it fails after it. -/
theorem ctrDataNeedsCtrInit : Obligations.CtrDataNeedsCtrInit := by
  refine fun s data hinvalid => ⟨exec_of_ctr_not_init data hinvalid (by simp),
    exec_of_ctr_not_init data hinvalid (by simp), exec_of_ctr_not_init data hinvalid (by simp), fun key i hi => ?_⟩
  have hrun := execAll_cons (exec_keyInit key s) [i]
  rw [execAll_cons (exec_of_ctr_not_init data (by exact hinvalid) hi), execAll] at hrun
  exact ⟨_, hrun, rfl, hinvalid⟩

/-! ### What a command reports (R204, R209, R217) -/

/-- `Reports s fault t`: from `s`, a command ends in `t` with the fault reported and nothing else done, or, where there is
none, with a response of status `OK` (R16, R204). -/
inductive Reports (s : State) : Option EngineFault → State → Prop
  | refused (f : EngineFault) : Reports s (some f) (s.raiseFault f)
  | completed {t : State} {p : List Byte} (hresp : t.respPort = s.respPort ++ responseFrame statusOk p) :
      Reports s none t

/-- The seven faults have seven status codes (R200). -/
theorem status_injective : Function.Injective EngineFault.status := by
  intro f g
  cases f <;> cases g <;> decide

/-- The response tells the fault that is reported (R200). -/
theorem Reports.fault_of_respPort {s t : State} {fault : Option EngineFault} {f : EngineFault} (h : Reports s fault t)
    (hresp : t.respPort = s.respPort ++ responseFrame f.status []) : fault = some f := by
  cases h with
  | refused g =>
    obtain ⟨hstatus, -⟩ := response_payload_unique hresp
    rw [status_injective hstatus]
  | completed hok =>
    obtain ⟨hstatus, -⟩ := response_payload_unique (hok.symm.trans hresp)
    obtain ⟨hne, -⟩ := status_range f
    exact absurd hstatus.symm hne

/-! ### The rows of the fault matrix (R217) -/

/-- The row of ENC_BLOCK and DEC_BLOCK. -/
theorem blockCommand_reports (f : Vector Word 72 → Vector Rot 72 → Vector Byte 24 → Vector Byte 24) (p : List Byte)
    (s : State) : Reports s (keyedFault p.length 24 s) (blockCommand f p s) := by
  rw [blockCommand_eq, keyedFault]
  split_ifs
  · exact .refused _
  · exact .refused _
  · exact .completed rfl

/-- The row of RD_KM and RD_KR. -/
theorem readStoreCommand_reports (store : State → List Word) (p : List Byte) (s : State) :
    Reports s (keyedFault p.length 0 s) (readStoreCommand store p s) := by
  rw [readStoreCommand_eq, keyedFault]
  split_ifs
  · exact .refused _
  · exact .refused _
  · exact .completed rfl

/-- The row of CTR_INIT. -/
theorem ctrInitCommand_reports (S : Sbox) (p : List Byte) (s : State) :
    Reports s (if p.length < 16 then some .badLength else none) (ctrInitCommand S p s) := by
  rw [ctrInitCommand_eq]
  split_ifs
  · exact .refused _
  · exact .completed rfl

/-- The row of CTR_SEEK. -/
theorem ctrSeekCommand_reports (c : List Byte) (s : State) :
    Reports s (if s.ctrValid = false then some .ctrNotInit else if 2 ^ 64 ≤ beInt c then some .seekRange else none)
      (ctrSeekCommand c s) := by
  rw [ctrSeekCommand_eq, show Config.ctrLimit = 2 ^ 64 from rfl]
  split_ifs
  · exact .refused _
  · exact .refused _
  · exact .completed rfl

/-- The fault that CTR_ENCRYPT and CTR_DECRYPT find by the checks of R146, in any state. -/
def State.dataFault (s : State) (len : Nat) : Option EngineFault :=
  if s.ctrValid = false then some .ctrNotInit else if s.wouldExhaust len then some .ctrExhausted else none

/-- Under the register invariant the checks of R146 find the fault of the matrix: the refills needed go past block
`2^64 − 1` exactly when the data goes past the keystream's end (R141, R217). -/
theorem State.Inv.dataFault_eq {s : State} (hinv : s.Inv) (len : Nat) : s.dataFault len = ctrDataFault len s := by
  rw [State.dataFault, ctrDataFault]
  by_cases hvalid : s.ctrValid = false
  · simp only [hvalid, if_true]
  · have hrange := hinv.inRange (by simpa using hvalid)
    simp only [hvalid, wouldExhaust_iff s len hrange.cur_le hrange.ctr_le hrange.one_le_ctr]

/-- CTR_ENCRYPT and CTR_DECRYPT report what their own checks find (R146). -/
theorem ctrDataCommand_reports (S : Sbox) (data : List Byte) (s : State) :
    Reports s (s.dataFault data.length) (ctrDataCommand S data s) := by
  rw [ctrDataCommand_eq, State.dataFault]
  split_ifs
  · exact .refused _
  · exact .refused _
  · obtain ⟨-, hsent, -⟩ := ctrXor_samePorts S data s
    exact .completed (by rw [State.respond_respPort, hsent])

/-- The row of CTR_ENCRYPT and CTR_DECRYPT. -/
theorem State.Inv.ctrDataCommand_reports {s : State} (hinv : s.Inv) (S : Sbox) (data : List Byte) :
    Reports s (ctrDataFault data.length s) (ctrDataCommand S data s) := by
  rw [← hinv.dataFault_eq]
  exact Machine.ctrDataCommand_reports S data s

/-- The row of GEN_SCHED. -/
theorem genSchedAnswer_reports (p : List Byte) (s : State) :
    Reports s (if p.length ≠ 2 then some .badLength else none) (s.answer (genSchedAnswer p)) := by
  split_ifs with hlen
  · rw [genSchedAnswer_badLength hlen]
    exact .refused _
  · obtain ⟨r, d, rfl⟩ := List.length_eq_two.mp (not_not.mp hlen)
    exact .completed rfl

/-- The row of GEN_RK. -/
theorem genRkAnswer_reports (S : Sbox) (p : List Byte) (s : State) :
    Reports s (if p.length < 2 then some .badLength else none) (s.answer (genRkAnswer S p)) := by
  split_ifs with hlen
  · rw [genRkAnswer_badLength S hlen]
    exact .refused _
  · match p with
    | [] | [_] => simp at hlen
    | r :: d :: key =>
      rw [genRkAnswer_cons]
      exact .completed rfl

/-! ### The rows with rotation words (R206, R217) -/

/-- Some of a payload's rotation words is above 31: the matrix's test, as a statement. -/
theorem someRotationAbove31_iff (p : List Byte) (off n : Nat) :
    someRotationAbove31 p off n = true ↔ ∃ j, j < n ∧ 31 < (wordAt p (off + 4 * j)).toNat := by
  simp [someRotationAbove31]

/-- A command that checks the length and then the rotation words reports the fault of its row. -/
theorem answer_reports_operandFault {a : Except EngineFault (List Byte)} {p : List Byte} {len off n : Nat} (s : State)
    (hbadLength : p.length ≠ len → a = .error .badLength)
    (hbadOperand : p.length = len → (∃ j, j < n ∧ 31 < (wordAt p (off + 4 * j)).toNat) → a = .error .badOperand)
    (hok : p.length = len → (¬ ∃ j, j < n ∧ 31 < (wordAt p (off + 4 * j)).toNat) → ∃ q, a = .ok q) :
    Reports s (operandFault p len off n) (s.answer a) := by
  simp only [operandFault, someRotationAbove31_iff]
  split_ifs with hlen hrot
  · rw [hbadLength hlen]
    exact .refused _
  · rw [hbadOperand (not_not.mp hlen) hrot]
    exact .refused _
  · obtain ⟨q, rfl⟩ := hok (not_not.mp hlen) hrot
    exact .completed rfl

/-- The row of DODECAD. -/
theorem dodecadAnswer_reports (S : Sbox) (p : List Byte) (s : State) :
    Reports s (operandFault p 144 96 12) (s.answer (dodecadAnswer S p)) := by
  refine answer_reports_operandFault s (dodecadAnswer_badLength S) (dodecadAnswer_badOperand S) fun hlen hlegal => ?_
  obtain ⟨tr, htr⟩ := Option.ne_none_iff_exists'.mp ((rotOperands_wordsAt_eq_none_iff p 96).not.mpr hlegal)
  rw [dodecadAnswer_eq, if_neg (not_not.mpr hlen), htr]
  exact ⟨_, rfl⟩

/-- The row of HEXAD and HEXADINV. -/
theorem hexadAnswer_reports (round : Vector Word 6 → Vector Word 6 → Vector Rot 6 → Vector Word 6) (p : List Byte)
    (s : State) : Reports s (operandFault p 72 48 6) (s.answer (hexadAnswer round p)) := by
  refine answer_reports_operandFault s (hexadAnswer_badLength round) (hexadAnswer_badOperand round) fun hlen hlegal => ?_
  obtain ⟨kr, hkr⟩ := Option.ne_none_iff_exists'.mp ((rotOperands_wordsAt_eq_none_iff p 48).not.mpr hlegal)
  rw [hexadAnswer_eq, if_neg (not_not.mpr hlen), hkr]
  exact ⟨_, rfl⟩

/-- The row of F1 to F6, whose one rotation word is at offset 8. -/
theorem fAnswer_reports (f : Word → Word → Rot → Word) (p : List Byte) (s : State) :
    Reports s (operandFault p 12 8 1) (s.answer (fAnswer f p)) := by
  have hplace : (∃ j, j < 1 ∧ 31 < (wordAt p (8 + 4 * j)).toNat) ↔ 31 < (wordAt p 8).toNat := by simp
  refine answer_reports_operandFault s (fAnswer_badLength f) (fun hlen hrot => ?_) fun hlen hlegal => ?_
  · exact fAnswer_badOperand f hlen (hplace.mp hrot)
  · rw [fAnswer_eq, if_neg (not_not.mpr hlen), if_neg (hplace.not.mp hlegal)]
    exact ⟨_, rfl⟩

/-! ### The whole fault matrix (R217) -/

/-- Every command reports the fault of its row. Only the row of the data commands speaks of the stream position, so only
they need the register invariant. -/
theorem exec_reports (i : Instr) (s : State) (hinv : ∀ data, i = .ctrEncrypt data ∨ i = .ctrDecrypt data → s.Inv) :
    ∃ t, exec i s = .next t ∧ Reports s (faultOf i s) t := by
  cases i with
  | keyInit key => exact ⟨_, exec_keyInit key s, .completed (p := []) rfl⟩
  | encBlock p => exact ⟨_, exec_encBlock p s, blockCommand_reports _ p s⟩
  | decBlock p => exact ⟨_, exec_decBlock p s, blockCommand_reports _ p s⟩
  | rdKm p => exact ⟨_, exec_rdKm_eq p s, readStoreCommand_reports _ p s⟩
  | rdKr p => exact ⟨_, exec_rdKr_eq p s, readStoreCommand_reports _ p s⟩
  | ctrInit p => exact ⟨_, exec_ctrInit p s, ctrInitCommand_reports _ p s⟩
  | ctrEncrypt data => exact ⟨_, exec_ctrEncrypt data s, (hinv data (.inl rfl)).ctrDataCommand_reports _ data⟩
  | ctrDecrypt data => exact ⟨_, exec_ctrDecrypt data s, (hinv data (.inr rfl)).ctrDataCommand_reports _ data⟩
  | ctrSeek c => exact ⟨_, exec_ctrSeek c s, ctrSeekCommand_reports c s⟩
  | genSched p => exact ⟨_, rfl, genSchedAnswer_reports p s⟩
  | genRk p => exact ⟨_, exec_genRk p s, genRkAnswer_reports _ p s⟩
  | dodecad p => exact ⟨_, exec_dodecad p s, dodecadAnswer_reports _ p s⟩
  | hexad p => exact ⟨_, exec_hexad p s, hexadAnswer_reports _ p s⟩
  | hexadInv p => exact ⟨_, exec_hexadInv p s, hexadAnswer_reports _ p s⟩
  | f1 p => exact ⟨_, exec_f1 p s, fAnswer_reports _ p s⟩
  | f2 p => exact ⟨_, exec_f2 p s, fAnswer_reports _ p s⟩
  | f3 p => exact ⟨_, exec_f3 p s, fAnswer_reports _ p s⟩
  | f4 p => exact ⟨_, exec_f4 p s, fAnswer_reports _ p s⟩
  | f5 p => exact ⟨_, exec_f5 p s, fAnswer_reports _ p s⟩
  | f6 p => exact ⟨_, exec_f6 p s, fAnswer_reports _ p s⟩

/-- Settles O12: what a command reports is its row's fault or a completion; the last row is the step on a reserved
opcode. -/
theorem faultMatrixDecidesTheOutcome : Obligations.FaultMatrixDecidesTheOutcome := by
  refine ⟨fun i s hinv => ?_, fun s f rest hline htake hreserved => ?_⟩
  · obtain ⟨t, hexec, hreports⟩ := exec_reports i s fun _ _ => hinv
    refine ⟨fun f hrow => ?_, fun hrow => ?_⟩
    · rw [hrow] at hreports
      cases hreports with
      | refused => exact hexec
    · rw [hrow] at hreports
      cases hreports with
      | completed hresp => exact ⟨t, _, hexec, hresp⟩
  · exact step_reserved hline htake ((commandOf_eq_none_iff f.opc f.payload).mpr hreserved)

/-! ### BAD_OPERAND (R206) -/

/-- The rows with rotation words report `BAD_OPERAND` for one above 31 only. -/
theorem exists_rotation_of_operandFault {p : List Byte} {len off n : Nat}
    (h : operandFault p len off n = some .badOperand) : ∃ j, j < n ∧ 31 < (wordAt p (off + 4 * j)).toNat := by
  rw [operandFault] at h
  split_ifs at h with hlen hrot
  · cases h
  · exact (someRotationAbove31_iff p off n).mp hrot

/-- The commands with a rotation word above 31 in their payload (R206): F1 to F6, HEXAD and HEXADINV, DODECAD. -/
def HasRotationAbove31 (i : Instr) : Prop :=
  (∃ p, i ∈ [.f1 p, .f2 p, .f3 p, .f4 p, .f5 p, .f6 p] ∧ 31 < (wordAt p 8).toNat) ∨
    (∃ p j, i ∈ [.hexad p, .hexadInv p] ∧ j < 6 ∧ 31 < (wordAt p (48 + 4 * j)).toNat) ∨
    ∃ p j, i = .dodecad p ∧ j < 12 ∧ 31 < (wordAt p (96 + 4 * j)).toNat

/-- In the fault matrix `BAD_OPERAND` stands in the rows of the commands with rotation words only. -/
theorem hasRotationAbove31_of_faultOf {i : Instr} {s : State} (h : faultOf i s = some .badOperand) :
    HasRotationAbove31 i := by
  have hf {p : List Byte} (hrow : operandFault p 12 8 1 = some .badOperand)
      (hi : i ∈ [.f1 p, .f2 p, .f3 p, .f4 p, .f5 p, .f6 p]) : HasRotationAbove31 i := by
    obtain ⟨j, hj, hrot⟩ := exists_rotation_of_operandFault hrow
    obtain rfl : j = 0 := by omega
    exact .inl ⟨p, hi, hrot⟩
  have hhexad {p : List Byte} (hrow : operandFault p 72 48 6 = some .badOperand) (hi : i ∈ [.hexad p, .hexadInv p]) :
      HasRotationAbove31 i := by
    obtain ⟨j, hj, hrot⟩ := exists_rotation_of_operandFault hrow
    exact .inr (.inl ⟨p, j, hi, hj, hrot⟩)
  cases i with
  | f1 p => exact hf h (by simp)
  | f2 p => exact hf h (by simp)
  | f3 p => exact hf h (by simp)
  | f4 p => exact hf h (by simp)
  | f5 p => exact hf h (by simp)
  | f6 p => exact hf h (by simp)
  | hexad p => exact hhexad h (by simp)
  | hexadInv p => exact hhexad h (by simp)
  | dodecad p =>
    obtain ⟨j, hj, hrot⟩ := exists_rotation_of_operandFault h
    exact .inr (.inr ⟨p, j, rfl, hj, hrot⟩)
  | _ => simp [faultOf, keyedFault, ctrDataFault, ite_eq_iff] at h

/-- The data commands never report `BAD_OPERAND`, whatever `CUR` and `CTR` hold. -/
theorem dataFault_ne_badOperand (s : State) (len : Nat) : s.dataFault len ≠ some .badOperand := by
  rw [State.dataFault]
  split_ifs <;> simp

/-- A command answered `BAD_OPERAND` has a rotation word above 31 (R206). -/
theorem hasRotationAbove31_of_exec {i : Instr} {s : State}
    (h : exec i s = .next (s.raiseFault .badOperand)) : HasRotationAbove31 i := by
  by_cases hdata : ∃ data, i = .ctrEncrypt data ∨ i = .ctrDecrypt data
  · obtain ⟨data, hi⟩ := hdata
    have hreports := ctrDataCommand_reports Config.sbox data s
    rw [exec_ctrData hi, Host.Outcome.next.injEq] at h
    rw [h] at hreports
    exact absurd (hreports.fault_of_respPort rfl) (dataFault_ne_badOperand s _)
  · obtain ⟨t, hexec, hreports⟩ := exec_reports i s fun data hi => absurd ⟨data, hi⟩ hdata
    obtain rfl : s.raiseFault .badOperand = t := by simpa [h] using hexec
    exact hasRotationAbove31_of_faultOf (hreports.fault_of_respPort rfl)

/-- Settles O22: the refusals are those of O21, O37 and O29; the converse is that of the fault matrix. -/
theorem rotationOperandAbove31IsRefused : Obligations.RotationOperandAbove31IsRefused := by
  obtain ⟨-, hf⟩ := fCommandsAnswerTheCombineFunctions
  obtain ⟨-, hhexad⟩ := hexadCommandsAnswerTheRoundFunctions
  obtain ⟨-, hdodecad⟩ := dodecadCommandAnswersTheNewBlock
  refine ⟨fun s p => ⟨fun hlen hrot => ?_, fun hlen j hj hrot => ?_, fun hlen j hj hrot => ?_⟩,
    fun i s => hasRotationAbove31_of_exec⟩
  · exact hf p s 0x05 (.inr ⟨hlen, hrot, rfl⟩)
  · exact hhexad p s 0x05 (.inr ⟨hlen, ⟨j, hj, hrot⟩, rfl⟩)
  · exact (hdodecad p s).2 hlen ⟨j, hj, hrot⟩

end Sys2Proof.Machine
end

section
/-! Reset and hazards (R220, R221, R226): what the registers without a reset value may hold is never seen on the response
port, and KEY_INIT under a live stream splices two keystreams. -/

namespace Sys2Proof.Machine

open Sys2Proof

/-! ### Engines that the host cannot tell apart (R221) -/

/-- Two engines in the same dialogue with the host whose registers agree where a command can come to read them: the round
keys under `KEY_VALID`, everything under `CTR_VALID` but the `KS` of an empty buffer (R30, R221). -/
structure Indistinguishable (s t : State) : Prop where
  cmdPort_eq : t.cmdPort = s.cmdPort
  respPort_eq : t.respPort = s.respPort
  resetLine_eq : t.resetLine = s.resetLine
  keyValid_eq : t.keyValid = s.keyValid
  ctrValid_eq : t.ctrValid = s.ctrValid
  keys_eq : s.keyValid = true → t.km = s.km ∧ t.kr = s.kr
  stream_eq : s.ctrValid = true → t = s ∨ s.cur = 24 ∧ ∃ ks, t = { s with ks := ks }

namespace Indistinguishable

theorem refl (s : State) : Indistinguishable s s :=
  ⟨rfl, rfl, rfl, rfl, rfl, fun _ => ⟨rfl, rfl⟩, fun _ => .inl rfl⟩

/-- The contents of an empty buffer are not seen (R30). -/
theorem of_empty {s : State} (hempty : s.cur = 24) (ks : Vector Byte 24) : Indistinguishable s { s with ks := ks } :=
  ⟨rfl, rfl, rfl, rfl, rfl, fun _ => ⟨rfl, rfl⟩, fun _ => .inr ⟨hempty, ks, rfl⟩⟩

section

variable {s t : State} (h : Indistinguishable s t)
include h

/-! ### What the shared operations make of them -/

theorem send (frame : List Byte) : Indistinguishable (s.send frame) (t.send frame) where
  cmdPort_eq := h.cmdPort_eq
  respPort_eq := by simp [h.respPort_eq]
  resetLine_eq := h.resetLine_eq
  keyValid_eq := h.keyValid_eq
  ctrValid_eq := h.ctrValid_eq
  keys_eq := h.keys_eq
  stream_eq hvalid := by
    obtain rfl | ⟨hempty, ks, rfl⟩ := h.stream_eq hvalid
    · exact .inl rfl
    · exact .inr ⟨hempty, ks, rfl⟩

theorem respond (p : List Byte) : Indistinguishable (s.respond p) (t.respond p) :=
  h.send _

theorem raiseFault (f : EngineFault) : Indistinguishable (s.raiseFault f) (t.raiseFault f) :=
  h.send _

theorem setCmdPort (rest : List Byte) : Indistinguishable (s.setCmdPort rest) (t.setCmdPort rest) where
  cmdPort_eq := rfl
  respPort_eq := h.respPort_eq
  resetLine_eq := h.resetLine_eq
  keyValid_eq := h.keyValid_eq
  ctrValid_eq := h.ctrValid_eq
  keys_eq := h.keys_eq
  stream_eq hvalid := by
    obtain rfl | ⟨hempty, ks, rfl⟩ := h.stream_eq hvalid
    · exact .inl rfl
    · exact .inr ⟨hempty, ks, rfl⟩

/-- Reset leaves nothing of the registers (R220). -/
theorem applyReset : Indistinguishable s.applyReset t.applyReset := by
  rw [State.applyReset, State.applyReset, h.respPort_eq]
  exact refl _

/-- From here on the round keys are the same, whatever was in the stores (R24, R107). -/
theorem installKey (S : Sbox) (key : List Byte) : Indistinguishable (s.installKey S key) (t.installKey S key) where
  cmdPort_eq := by simp [h.cmdPort_eq]
  respPort_eq := by simp [h.respPort_eq]
  resetLine_eq := by simp [h.resetLine_eq]
  keyValid_eq := by simp
  ctrValid_eq := by simp [h.ctrValid_eq]
  keys_eq _ := by simp
  stream_eq hvalid := by
    rw [State.installKey_ctrValid] at hvalid
    obtain rfl | ⟨hempty, ks, rfl⟩ := h.stream_eq hvalid
    · exact .inl rfl
    · exact .inr ⟨by simpa using hempty, ks, by rw [installKey_eq, installKey_eq]⟩

/-! ### What the commands make of them -/

/-- The round keys are read under `KEY_VALID` only (R127, R128, R203). -/
theorem blockCommand (f : Vector Word 72 → Vector Rot 72 → Vector Byte 24 → Vector Byte 24) (p : List Byte) :
    Indistinguishable (blockCommand f p s) (blockCommand f p t) := by
  rw [blockCommand_eq, blockCommand_eq, h.keyValid_eq]
  split_ifs with hlen hkeyed
  · exact h.raiseFault _
  · exact h.raiseFault _
  · obtain ⟨hkm, hkr⟩ := h.keys_eq (by simpa using hkeyed)
    rw [hkm, hkr]
    exact h.respond _

/-- A round-key store is read under `KEY_VALID` only (R165, R166, R203). -/
theorem readStoreCommand {store : State → List Word} (hstore : t.km = s.km → t.kr = s.kr → store t = store s)
    (p : List Byte) : Indistinguishable (readStoreCommand store p s) (readStoreCommand store p t) := by
  rw [readStoreCommand_eq, readStoreCommand_eq, h.keyValid_eq]
  split_ifs with hlen hkeyed
  · exact h.raiseFault _
  · exact h.raiseFault _
  · obtain ⟨hkm, hkr⟩ := h.keys_eq (by simpa using hkeyed)
    rw [hstore hkm hkr]
    exact h.respond _

/-- CTR_INIT writes every register but `KS`, and empties the buffer (R145). -/
theorem ctrInitCommand (S : Sbox) (p : List Byte) :
    Indistinguishable (ctrInitCommand S p s) (ctrInitCommand S p t) := by
  rw [ctrInitCommand_eq, ctrInitCommand_eq, h.cmdPort_eq, h.respPort_eq, h.resetLine_eq]
  split_ifs
  · exact h.raiseFault _
  · exact (of_empty rfl t.ks).respond []

/-- CTR_SEEK asks for `CTR_VALID` first and empties the buffer (R148). -/
theorem ctrSeekCommand (c : List Byte) : Indistinguishable (ctrSeekCommand c s) (ctrSeekCommand c t) := by
  rw [ctrSeekCommand_eq, ctrSeekCommand_eq, h.ctrValid_eq]
  split_ifs with hvalid hrange
  · exact h.raiseFault _
  · exact h.raiseFault _
  · obtain rfl | ⟨-, ks, rfl⟩ := h.stream_eq (by simpa using hvalid)
    · exact refl _
    · exact of_empty rfl ks

end

end Indistinguishable

/-- The first byte of data overwrites the buffer that it finds empty (R142, R144). -/
theorem ctrXor_cons_of_empty (S : Sbox) (b : Byte) (data : List Byte) {s : State} (hempty : s.cur = 24)
    (ks : Vector Byte 24) : ctrXor S (b :: data) { s with ks := ks } = ctrXor S (b :: data) s := by
  have hrefill : State.refillIfEmpty S { s with ks := ks } = s.refillIfEmpty S := by
    simp [State.refillIfEmpty, hempty, State.refill]
  rw [ctrXor, ctrXor, hrefill]

/-- The data commands ask for `CTR_VALID` first and refill an empty buffer before they read it (R144, R146). -/
theorem Indistinguishable.ctrDataCommand {s t : State} (h : Indistinguishable s t) (S : Sbox) (data : List Byte) :
    Indistinguishable (ctrDataCommand S data s) (ctrDataCommand S data t) := by
  cases hvalid : s.ctrValid with
  | false =>
    rw [ctrDataCommand_eq, ctrDataCommand_eq, if_pos hvalid, if_pos (h.ctrValid_eq.trans hvalid)]
    exact h.raiseFault _
  | true =>
    obtain rfl | ⟨hempty, ks, rfl⟩ := h.stream_eq hvalid
    · exact refl _
    · cases data with
      | nil =>
        rw [ctrDataCommand_nil S hvalid, ctrDataCommand_nil S (by exact hvalid)]
        exact h.respond []
      | cons b data =>
        have hroom : State.wouldExhaust { s with ks := ks } (b :: data).length = s.wouldExhaust (b :: data).length := rfl
        rw [ctrDataCommand_eq, ctrDataCommand_eq, hroom, ctrXor_cons_of_empty S b data hempty ks]
        split_ifs
        · exact h.raiseFault _
        · exact h.raiseFault _
        · exact refl _

/-- Every command keeps two such engines indistinguishable (R221). -/
theorem Indistinguishable.exec {s t : State} (h : Indistinguishable s t) (i : Instr) :
    ∃ s' t', exec i s = .next s' ∧ exec i t = .next t' ∧ Indistinguishable s' t' := by
  by_cases hopcode : 0x30 ≤ i.opcode.toNat
  · obtain ⟨a, hexec⟩ := exec_of_validation_opcode hopcode
    obtain ⟨frame, hsend⟩ := answer_frame a
    exact ⟨_, _, hexec s, hexec t, by rw [hsend, hsend]; exact h.send frame⟩
  · cases i with
    | keyInit key => exact ⟨_, _, rfl, rfl, (h.installKey Config.sbox key).respond []⟩
    | encBlock p => exact ⟨_, _, exec_encBlock p s, exec_encBlock p t, h.blockCommand _ p⟩
    | decBlock p => exact ⟨_, _, exec_decBlock p s, exec_decBlock p t, h.blockCommand _ p⟩
    | rdKm p =>
      exact ⟨_, _, exec_rdKm_eq p s, exec_rdKm_eq p t,
        h.readStoreCommand (fun hkm _ => congrArg Vector.toList hkm) p⟩
    | rdKr p =>
      exact ⟨_, _, exec_rdKr_eq p s, exec_rdKr_eq p t,
        h.readStoreCommand (fun _ hkr => congrArg (fun kr => kr.toList.map rotWord) hkr) p⟩
    | ctrInit p => exact ⟨_, _, exec_ctrInit p s, exec_ctrInit p t, h.ctrInitCommand _ p⟩
    | ctrEncrypt data => exact ⟨_, _, exec_ctrEncrypt data s, exec_ctrEncrypt data t, h.ctrDataCommand _ data⟩
    | ctrDecrypt data => exact ⟨_, _, exec_ctrDecrypt data s, exec_ctrDecrypt data t, h.ctrDataCommand _ data⟩
    | ctrSeek c => exact ⟨_, _, exec_ctrSeek c s, exec_ctrSeek c t, h.ctrSeekCommand c⟩
    | _ => simp [Instr.opcode] at hopcode

/-! ### Steps and runs (R220, R221) -/

/-- Every step keeps two such engines indistinguishable: they take the same frame, or the same reset (R221). -/
theorem Indistinguishable.step {s t : State} (h : Indistinguishable s t) :
    ∃ s' t', step s = .next s' ∧ step t = .next t' ∧ Indistinguishable s' t' := by
  simp only [Machine.step, State.pending, h.resetLine_eq, h.cmdPort_eq]
  split_ifs
  · exact ⟨_, _, rfl, rfl, h.applyReset⟩
  · rcases decode s.cmdPort with (_ | ⟨opc, rest⟩) | ⟨i, rest⟩
    · exact ⟨_, _, rfl, rfl, h⟩
    · exact ⟨_, _, rfl, rfl, (h.setCmdPort rest).raiseFault _⟩
    · exact (h.setCmdPort rest).exec i

/-- A run is its first step and then the rest. -/
theorem run_succ {s t : State} (hstep : step s = .next t) (n : Nat) : core.run (n + 1) s = core.run n t := by
  have hcore : core.step s = .next t := hstep
  simp only [Host.Core.run, hcore]

/-- However long two such engines run, they stay indistinguishable (R221). -/
theorem Indistinguishable.run (n : Nat) {s t : State} (h : Indistinguishable s t) :
    ∃ s' t' : State, core.run n s = .next s' ∧ core.run n t = .next t' ∧ Indistinguishable s' t' := by
  induction n generalizing s t with
  | zero => exact ⟨s, t, rfl, rfl, h⟩
  | succ n ih =>
    obtain ⟨s₁, t₁, hs, ht, h₁⟩ := h.step
    rw [run_succ hs, run_succ ht]
    exact ih h₁

/-- Settles O14: while both flags are 0 no register is compared. -/
theorem unspecifiedResetContentsAreUnobservable : Obligations.UnspecifiedResetContentsAreUnobservable := by
  intro n s₁ s₂ hkey₁ hkey₂ hctr₁ hctr₂ hcmd hline hresp
  have hstart : Indistinguishable s₁ s₂ :=
    { cmdPort_eq := hcmd.symm
      respPort_eq := hresp.symm
      resetLine_eq := hline.symm
      keyValid_eq := hkey₂.trans hkey₁.symm
      ctrValid_eq := hctr₂.trans hctr₁.symm
      keys_eq := fun hkeyed => by simp [hkey₁] at hkeyed
      stream_eq := fun hlive => by simp [hctr₁] at hlive }
  obtain ⟨t₁, t₂, hrun₁, hrun₂, hend⟩ := hstart.run n
  exact ⟨t₁, t₂, hrun₁, hrun₂, hend.respPort_eq.symm⟩

/-! ### KEY_INIT under a live stream (R107, R226) -/

theorem keyInitCommand_position (S : Sbox) (key : List Byte) (s : State) :
    (keyInitCommand S key s).position = s.position := by
  simp [keyInitCommand, State.position]

/-- KEY_INIT moves neither `CTR` nor `CUR` (R107). -/
theorem State.InRange.keyInitCommand {s : State} (h : s.InRange) (S : Sbox) (key : List Byte) :
    (keyInitCommand S key s).InRange := by
  obtain ⟨hcur, hcur24, hctr, hbuffered⟩ := h
  constructor <;> simpa [Machine.keyInitCommand]

/-- What KEY_INIT leaves in the buffer is keystream of the old keys; the next refill uses the new ones (R226). -/
theorem ctrXor_keyInitCommand_output {S : Sbox} {s : State} (hrange : s.InRange) (hcurrent : s.BufferCurrent S)
    (key : List Byte) {data : List Byte} {i : Nat} (hi : i < data.length) :
    (ctrXor S data (keyInitCommand S key s)).1.getD i 0 = data.getD i 0 ^^^
      (if i < 24 - s.cur then keystreamByte S s.km s.kr s.nonce (s.position + i)
       else keystreamByte S (deriveKeys S key).1 (deriveKeys S key).2 s.nonce (s.position + i)) := by
  have hrange' := hrange.keyInitCommand S key
  rw [ctrXor_output S data _ hrange'.cur_le hrange'.one_le_ctr i hi, keyInitCommand_position]
  simp only [keyInitCommand, State.respond_km, State.respond_kr, State.respond_nonce, State.respond_ks,
    State.respond_cur, State.installKey_km, State.installKey_kr, State.installKey_nonce, State.installKey_ks,
    State.installKey_cur]
  split_ifs with hbuffered
  · rw [buffered_byte_of_current hrange hcurrent hbuffered]
  · rfl

/-- Settles O51: KEY_INIT keeps the position, so the data still ends within the keystream. -/
theorem keyInitSplicesTwoKeystreams : Obligations.KeyInitSplicesTwoKeystreams := by
  intro s key data hinv hvalid hcurrent hend
  obtain ⟨u, hu⟩ : ∃ u, keyInitCommand Config.sbox key s = u := ⟨_, rfl⟩
  have hrange := hinv.inRange hvalid
  have hinit : exec (.keyInit key) s = .next u := congrArg _ hu
  have huvalid : u.ctrValid = true := by simp [← hu, keyInitCommand, hvalid]
  have hsent : u.respPort = s.respPort ++ [0x00, 0x00, 0x00, 0x00] := by rw [← hu]; rfl
  have hroom : u.wouldExhaust data.length = false := by
    subst hu
    exact (hrange.keyInitCommand _ key).room (by rwa [keyInitCommand_position])
  refine ⟨(ctrXor Config.sbox data u).2.respond (ctrXor Config.sbox data u).1, (ctrXor Config.sbox data u).1, ?_, ?_,
    ctrXor_length _ data u, fun i hi => ?_⟩
  · rw [execAll_cons hinit, execAll_cons (exec_ctrEncrypt data u), ctrDataCommand_of_room _ huvalid hroom, execAll]
  · rw [ctrXor_respond_respPort, hsent]
  · subst hu
    exact ctrXor_keyInitCommand_output hrange hcurrent key hi

end Sys2Proof.Machine
end

section
/-! The reset input (R220): it comes before whatever the command port holds, so of the four things a step can be only the
reset is left. -/

namespace Sys2Proof.Machine

open Sys2Proof

/-! ### A step with the reset input asserted (R220) -/

/-- Reset comes before a wait, a refusal and a command: those need the reset input low. -/
theorem step_of_resetLine {s : State} (hline : s.resetLine = true) : step s = .next s.applyReset := by
  obtain ⟨-, hreset⟩ | ⟨hlow, -⟩ | ⟨f, rest, hlow, -⟩ := step_cases s
  · exact hreset
  · simp [hline] at hlow
  · simp [hline] at hlow

/-- Settles O9: the flags and ports are read off `State.reset`, and `State.applyReset` is by definition that state with
the responses kept. -/
theorem resetLineResetsTheEngine : Obligations.ResetLineResetsTheEngine :=
  ⟨⟨rfl, rfl, rfl, rfl⟩, fun _ hline => step_of_resetLine hline⟩

end Sys2Proof.Machine
end
